-- ==== Sys2Proof/Word.lean ====
section
/-! DEFINITION. The words of the block (00_scope.md R6, R8, R9): the 15-bit channel word, the 32-bit operation
record, the byte and the byte string, and the index of a register bit. -/

namespace Sys2Proof

/-- A byte: bit 7 is the most significant (R8). -/
abbrev Byte := BitVec 8

/-- A finite list of bytes (R9). -/
abbrev Bytes := List Byte

/-- The contents of a channel register. Register bit `i` of the manual (1..15) is bit `i - 1` of the word (R8, R27). -/
abbrev ChanWord := BitVec 15

/-- A 32-bit operation record (30_encoding.md R48). -/
abbrev Record := BitVec 32

/-- A register bit. The value `k` stands for the manual's bit `k + 1`: the type holds bits 1..15 and no bit 0
(R8: index 0 "is excluded from the type"). -/
abbrev RegBit := Fin 15

/-- The register bits 1..15 in ascending order (43_indicator_tracker.md R82, 92_eei_decisions.md D11). -/
abbrev allRegBits : List RegBit := [0, 1, 2, 3, 4, 5, 6, 7, 8, 9, 10, 11, 12, 13, 14]

end Sys2Proof
end

