-- ==== Sys2Proof/Config.lean ====
section
/-! DEFINITION. The names the block uses (fields, lamps, roles, signs, digits) and its parameters (00_scope.md R7).
The parameters' domains and defaults are in Machine/Params.lean. -/

namespace Sys2Proof

/-- A peripheral role (00_scope.md R10, 10_state.md R20). -/
inductive Role | display | indicator
  deriving DecidableEq, Repr

/-- A register row of the display, 1..3 (10_state.md R14). -/
inductive Row | r1 | r2 | r3
  deriving DecidableEq, Repr

/-- A net sign (R9): codes 0, 1, 2 in this order. -/
inductive Sign | blank | minus | plus
  deriving DecidableEq, Repr

/-- Which of a row's two sign flags a relay word offers its sign bit to (42_display_decoder.md R63). -/
inductive SignFlag | plus | minus
  deriving DecidableEq, Repr

/-- A digit value, the integers -1..9 (R9): `blank` is -1. The block never does arithmetic on it (R58). -/
inductive Digit | blank | num (n : Fin 10)
  deriving DecidableEq, Repr

/-- The 21 digit fields (30_encoding.md R39), in that rule's order. -/
inductive DigitField
  | md1 | md2 | vd1 | vd2 | nd1 | nd2
  | r1d1 | r1d2 | r1d3 | r1d4 | r1d5
  | r2d1 | r2d2 | r2d3 | r2d4 | r2d5
  | r3d1 | r3d2 | r3d3 | r3d4 | r3d5
  deriving DecidableEq, Repr

/-- The register bits of the relay-word-12 lamps (30_encoding.md R42): 3, 4, 5, 6, 8, 9. -/
inductive LampBit | b3 | b4 | b5 | b6 | b8 | b9
  deriving DecidableEq, Repr

/-- Lamp names: the six of `LAMP12_MAP` (R42), the five LAMP entries of the default `CH11_MAP` (R43), and fifteen
spare names, so that every partial map from 15 bits to names is expressible.
DESIGN CHOICE, log entry 12 (safe). -/
inductive Lamp
  | vel | noAtt | alt | gimbalLock | tracker | prog
  | uplinkActy | temp | keyRel | vnFlash | oprErr
  | other (k : Fin 15)
  deriving DecidableEq, Repr

/-- An entry of `CH11_MAP` (R43): a LAMP name (indicator-style command), or COMP_ACTY of kind ACTY (display-style). -/
inductive Ch11Entry | lamp (n : Lamp) | compActy
  deriving DecidableEq, Repr

/-- The command names that have a command number (45_command_encoder.md R88 (a)). -/
inductive CmdName
  | digit (f : DigitField) | sign (r : Row) | acty | lamp (n : Lamp) | reset (role : Role)
  deriving DecidableEq, Repr

/-- `SIGN_FLAG_MODE` (R7, 92_eei_decisions.md D4). -/
inductive SignFlagMode | follow | setOnly
  deriving DecidableEq, Repr

/-- `SIGN_PRECEDENCE` (R7, D5). -/
inductive SignPrecedence | hold | mostRecent
  deriving DecidableEq, Repr

/-- `P3_MISMATCH` (R7, D15). -/
inductive P3Mismatch | yieldPair | dropFrame
  deriving DecidableEq, Repr

/-- One value per row. -/
structure PerRow (α : Type) where
  r1 : α
  r2 : α
  r3 : α
  deriving DecidableEq, Repr

/-- One value per role. -/
structure PerRole (α : Type) where
  display : α
  indicator : α
  deriving DecidableEq, Repr

/-- One value per relay-word-12 lamp bit. -/
structure PerLamp (α : Type) where
  b3 : α
  b4 : α
  b5 : α
  b6 : α
  b8 : α
  b9 : α
  deriving DecidableEq, Repr

/-- `CMD_CODE` as data (45_command_encoder.md R88): the command number of every command name, the digit fields in
R39's order, the lamps in the order of `Lamp`. -/
structure CmdCodes where
  digit : Vector Bytes 21
  sign : PerRow Bytes
  acty : Bytes
  lamp : Vector Bytes 26
  reset : PerRole Bytes
  deriving DecidableEq, Repr

/-- The block's parameters (00_scope.md R7), fixed for a run (10_state.md R22). -/
structure Params where
  /-- `SIGN_FLAG_MODE` -/
  signFlagMode : SignFlagMode
  /-- `SIGN_PRECEDENCE` -/
  signPrecedence : SignPrecedence
  /-- `LAMP12_MAP`: register bit to lamp name -/
  lamp12Map : PerLamp Lamp
  /-- `CH11_MAP`: position `k` is register bit `k + 1` -/
  ch11Map : Vector (Option Ch11Entry) 15
  /-- `P3_MISMATCH` -/
  p3Mismatch : P3Mismatch
  /-- `KEY_CHANNEL` -/
  keyChannel : BitVec 7
  /-- `CMD_CODE` -/
  cmdCodes : CmdCodes
  /-- `CMD_TERMINATOR` -/
  cmdTerminator : Bytes
  /-- `CONN_AT_POWER_ON` -/
  connAtPowerOn : PerRole Bool
  deriving DecidableEq, Repr

/-- The hardware's command numbers, which the spec leaves OPEN (R7, R88, 92_eei_decisions.md D20): a free value,
one byte string per command name. Log entry 5. -/
opaque Config.freeCmdCode : CmdName → Bytes

end Sys2Proof
end

