-- ==== Sys2Proof/Syntax.lean ====
section
/-! DEFINITION. The syntax of everything the block decodes: one constructor per row of spec/opcode_table.json.
The first sixteen are 32-bit operation records (30_encoding.md R48, R49), the next sixteen the relay words of a
15-bit Channel-10 word (R38, R40), the last four the bytes of a frame (R44).
How a relay word or a frame byte comes to run is log entry 6. -/

namespace Sys2Proof

/-- An instruction: an operation, a Channel-10 word by its relay word, or a frame byte by its marker. -/
inductive Instr
  /-- Tag 0x0, unassigned (R100); `rest` is the record's other 28 bits. -/
  | unassigned0 (rest : BitVec 28)
  /-- CH10_SET_BIT i, v (R53) -/
  | ch10SetBit (i : BitVec 4) (v : Bool)
  /-- CH10_WRITE w (R54); bit 15 of `w` is named and ignored -/
  | ch10Write (w : BitVec 16)
  /-- DISP_STROBE (R59) -/
  | dispStrobe
  /-- CH11_SET_BIT i, v (R55) -/
  | ch11SetBit (i : BitVec 4) (v : Bool)
  /-- CH11_WRITE w (R56) -/
  | ch11Write (w : BitVec 16)
  /-- INDC_STROBE (R82) -/
  | indcStrobe
  /-- TRACKER_SET_BIT i, v (R81) -/
  | trackerSetBit (i : BitVec 4) (v : Bool)
  /-- BYTE_IN b (R83) -/
  | byteIn (b : Byte)
  /-- KEY_IN k (R87); well formed when bit 15 is 0 -/
  | keyIn (k : BitVec 16)
  /-- RESET (R112) -/
  | reset
  /-- TRANSPORT_STATUS role, up (R95); well formed when `role` is 0 or 1 -/
  | transportStatus (role : BitVec 4) (up : Bool)
  /-- STANDBY (R97) -/
  | standby
  /-- KEYBOARD_STROBE (R98) -/
  | keyboardStrobe
  /-- PROCEED (R99) -/
  | proceed
  /-- Tag 0xF, unassigned (R100) -/
  | unassignedF (rest : BitVec 28)
  /-- Relay word 0 (R66) -/
  | rw0 (sb : Bool) (up lo : BitVec 5)
  /-- Relay word 1 (R67) -/
  | rw1 (sb : Bool) (up lo : BitVec 5)
  /-- Relay word 2 (R68) -/
  | rw2 (sb : Bool) (up lo : BitVec 5)
  /-- Relay word 3 (R69) -/
  | rw3 (sb : Bool) (up lo : BitVec 5)
  /-- Relay word 4 (R70) -/
  | rw4 (sb : Bool) (up lo : BitVec 5)
  /-- Relay word 5 (R71) -/
  | rw5 (sb : Bool) (up lo : BitVec 5)
  /-- Relay word 6 (R72) -/
  | rw6 (sb : Bool) (up lo : BitVec 5)
  /-- Relay word 7 (R73) -/
  | rw7 (sb : Bool) (up lo : BitVec 5)
  /-- Relay word 8 (R74) -/
  | rw8 (sb : Bool) (up lo : BitVec 5)
  /-- Relay word 9 (R75) -/
  | rw9 (sb : Bool) (up lo : BitVec 5)
  /-- Relay word 10 (R76) -/
  | rw10 (sb : Bool) (up lo : BitVec 5)
  /-- Relay word 11 (R77) -/
  | rw11 (sb : Bool) (up lo : BitVec 5)
  /-- Relay word 12 (R78) -/
  | rw12 (sb : Bool) (up lo : BitVec 5)
  /-- Relay word 13 (R79) -/
  | rw13 (sb : Bool) (up lo : BitVec 5)
  /-- Relay word 14 (R79) -/
  | rw14 (sb : Bool) (up lo : BitVec 5)
  /-- Relay word 15 (R79) -/
  | rw15 (sb : Bool) (up lo : BitVec 5)
  /-- Frame byte with marker 00: two ignored bits and channel bits 6:3 (R44, R83) -/
  | frameB0 (ign : BitVec 2) (chHi : BitVec 4)
  /-- Frame byte with marker 01: channel bits 2:0 and data bits 14:12 -/
  | frameB1 (chLo : BitVec 3) (dHi : BitVec 3)
  /-- Frame byte with marker 10: data bits 11:6 -/
  | frameB2 (dMid : BitVec 6)
  /-- Frame byte with marker 11: data bits 5:0 (R84) -/
  | frameB3 (dLo : BitVec 6)
  deriving DecidableEq, Repr

end Sys2Proof
end

