-- ==== Sys2Proof/WellFormed.lean ====
section
/-! DEFINITION. Which instructions are well formed (30_encoding.md R48 to R50, 46_control_events.md R100). The other
fields are of the widths the encodings give them, so every value of theirs is well formed. -/

namespace Sys2Proof

/-- KEY_IN's key code holds 15 bits: `arg[15]` must be 0 (R49, R87). -/
def keyCodeOk (k : BitVec 16) : Bool := !k.getLsbD 15

/-- TRANSPORT_STATUS names a role, 0 or 1 (R48, R95). -/
def roleFieldOk (role : BitVec 4) : Bool := role.toNat ≤ 1

/-- The well-formedness of an instruction. -/
def Instr.wellFormed : Instr → Bool
  | .keyIn k => keyCodeOk k
  | .transportStatus role _ => roleFieldOk role
  | .unassigned0 _ => true
  | .ch10SetBit _ _ => true
  | .ch10Write _ => true
  | .dispStrobe => true
  | .ch11SetBit _ _ => true
  | .ch11Write _ => true
  | .indcStrobe => true
  | .trackerSetBit _ _ => true
  | .byteIn _ => true
  | .reset => true
  | .standby => true
  | .keyboardStrobe => true
  | .proceed => true
  | .unassignedF _ => true
  | .rw0 _ _ _ => true
  | .rw1 _ _ _ => true
  | .rw2 _ _ _ => true
  | .rw3 _ _ _ => true
  | .rw4 _ _ _ => true
  | .rw5 _ _ _ => true
  | .rw6 _ _ _ => true
  | .rw7 _ _ _ => true
  | .rw8 _ _ _ => true
  | .rw9 _ _ _ => true
  | .rw10 _ _ _ => true
  | .rw11 _ _ _ => true
  | .rw12 _ _ _ => true
  | .rw13 _ _ _ => true
  | .rw14 _ _ _ => true
  | .rw15 _ _ _ => true
  | .frameB0 _ _ => true
  | .frameB1 _ _ => true
  | .frameB2 _ => true
  | .frameB3 _ => true

end Sys2Proof
end

