-- ==== Sys2Proof/Decode.lean ====
section
/-! DEFINITION. Decoding and encoding of the three formats: operation records (30_encoding.md R48, R49, R100),
Channel-10 words (R38, R40) and frame bytes (R44). Decoding is total; a malformed record is rejected by name. -/

namespace Sys2Proof

/-! ## Fields -/

/-- Bits 31:28 of a record. -/
def recTag (r : Record) : BitVec 4 := r.extractLsb' 28 4
/-- Bits 27:20 of a record, reserved. -/
def recRsv (r : Record) : BitVec 8 := r.extractLsb' 20 8
/-- Bits 19:16 of a record. -/
def recIdx (r : Record) : BitVec 4 := r.extractLsb' 16 4
/-- Bits 15:0 of a record. -/
def recArg (r : Record) : BitVec 16 := r.extractLsb' 0 16
/-- Bits 27:0 of a record: what an unassigned tag leaves unread. -/
def recRest (r : Record) : BitVec 28 := r.extractLsb' 0 28

/-- `rw`, register bits 15:12 of a Channel-10 word (R38). -/
def wordRw (w : ChanWord) : BitVec 4 := w.extractLsb' 11 4
/-- `sb`, register bit 11. -/
def wordSb (w : ChanWord) : Bool := w.getLsbD 10
/-- `up`, register bits 10:6. -/
def wordUp (w : ChanWord) : BitVec 5 := w.extractLsb' 5 5
/-- `lo`, register bits 5:1. -/
def wordLo (w : ChanWord) : BitVec 5 := w.extractLsb' 0 5

/-- The marker, bits 7:6 of a frame byte (R44). -/
def byteMarker (b : Byte) : BitVec 2 := b.extractLsb' 6 2

/-! ## Decoding -/

/-- Why a record is malformed (R100). -/
inductive DecodeError
  /-- `rsv` is not 0. -/
  | reservedNonZero
  /-- A field the tag's rule does not name is not 0. -/
  | unnamedFieldNonZero
  /-- TRANSPORT_STATUS with a role above 1. -/
  | roleOutOfRange
  /-- KEY_IN with `arg[15] = 1`. -/
  | keyCodeTooWide
  deriving DecidableEq, Repr

/-- Reads an operation that names no field. -/
def decodeBare (i : Instr) (idx : BitVec 4) (arg : BitVec 16) : Except DecodeError Instr :=
  if idx = 0 ∧ arg = 0 then .ok i else .error .unnamedFieldNonZero

/-- Reads a set-bit operation: `idx` and `arg[0]` are named, `arg[15:1]` must be 0. -/
def decodeSetBit (mk : BitVec 4 → Bool → Instr) (idx : BitVec 4) (arg : BitVec 16) : Except DecodeError Instr :=
  if arg.extractLsb' 1 15 = 0 then .ok (mk idx (arg.getLsbD 0)) else .error .unnamedFieldNonZero

/-- Reads a whole-value write: all of `arg` is named, `idx` must be 0. -/
def decodeWrite (mk : BitVec 16 → Instr) (idx : BitVec 4) (arg : BitVec 16) : Except DecodeError Instr :=
  if idx = 0 then .ok (mk arg) else .error .unnamedFieldNonZero

/-- Reads BYTE_IN: `arg[7:0]` is named. -/
def decodeByteIn (idx : BitVec 4) (arg : BitVec 16) : Except DecodeError Instr :=
  if idx = 0 ∧ arg.extractLsb' 8 8 = 0 then .ok (.byteIn (arg.extractLsb' 0 8)) else .error .unnamedFieldNonZero

/-- Reads KEY_IN: `arg[14:0]` is named, `arg[15]` must be 0. -/
def decodeKeyIn (idx : BitVec 4) (arg : BitVec 16) : Except DecodeError Instr :=
  if idx ≠ 0 then .error .unnamedFieldNonZero
  else if keyCodeOk arg then .ok (.keyIn arg) else .error .keyCodeTooWide

/-- Reads TRANSPORT_STATUS: `idx` is the role, `arg[0]` the status. -/
def decodeTransport (idx : BitVec 4) (arg : BitVec 16) : Except DecodeError Instr :=
  if arg.extractLsb' 1 15 ≠ 0 then .error .unnamedFieldNonZero
  else if roleFieldOk idx then .ok (.transportStatus idx (arg.getLsbD 0)) else .error .roleOutOfRange

/-- The operation a tag names, with its fields read (R49). -/
def decodeTag (tag idx : BitVec 4) (arg : BitVec 16) (rest : BitVec 28) : Except DecodeError Instr :=
  match tag with
  | 0x0#4 => .ok (.unassigned0 rest)
  | 0x1#4 => decodeSetBit .ch10SetBit idx arg
  | 0x2#4 => decodeWrite .ch10Write idx arg
  | 0x3#4 => decodeBare .dispStrobe idx arg
  | 0x4#4 => decodeSetBit .ch11SetBit idx arg
  | 0x5#4 => decodeWrite .ch11Write idx arg
  | 0x6#4 => decodeBare .indcStrobe idx arg
  | 0x7#4 => decodeSetBit .trackerSetBit idx arg
  | 0x8#4 => decodeByteIn idx arg
  | 0x9#4 => decodeKeyIn idx arg
  | 0xA#4 => decodeBare .reset idx arg
  | 0xB#4 => decodeTransport idx arg
  | 0xC#4 => decodeBare .standby idx arg
  | 0xD#4 => decodeBare .keyboardStrobe idx arg
  | 0xE#4 => decodeBare .proceed idx arg
  | _ => .ok (.unassignedF rest)

/-- Tags 0x0 and 0xF, which name no operation: the whole record is refused whatever it holds (R100). -/
def tagUnassigned (tag : BitVec 4) : Bool := tag = 0x0 ∨ tag = 0xF

/-- An operation record. `rsv` must be 0 under every assigned tag (R48, R100). -/
def decodeRecord (r : Record) : Except DecodeError Instr :=
  if recRsv r ≠ 0 ∧ !tagUnassigned (recTag r) then .error .reservedNonZero
  else decodeTag (recTag r) (recIdx r) (recArg r) (recRest r)

/-- The instruction of a relay word and the word's other fields (R40). -/
def relayInstr (rw : BitVec 4) (sb : Bool) (up lo : BitVec 5) : Instr :=
  match rw with
  | 0#4 => .rw0 sb up lo
  | 1#4 => .rw1 sb up lo
  | 2#4 => .rw2 sb up lo
  | 3#4 => .rw3 sb up lo
  | 4#4 => .rw4 sb up lo
  | 5#4 => .rw5 sb up lo
  | 6#4 => .rw6 sb up lo
  | 7#4 => .rw7 sb up lo
  | 8#4 => .rw8 sb up lo
  | 9#4 => .rw9 sb up lo
  | 10#4 => .rw10 sb up lo
  | 11#4 => .rw11 sb up lo
  | 12#4 => .rw12 sb up lo
  | 13#4 => .rw13 sb up lo
  | 14#4 => .rw14 sb up lo
  | _ => .rw15 sb up lo

/-- A Channel-10 word by its relay word (R40, R60); every word decodes. -/
def decodeWord (w : ChanWord) : Instr := relayInstr (wordRw w) (wordSb w) (wordUp w) (wordLo w)

/-- A frame byte by its marker (R44); every byte decodes. -/
def decodeByte (b : Byte) : Instr :=
  match byteMarker b with
  | 0#2 => .frameB0 (b.extractLsb' 4 2) (b.extractLsb' 0 4)
  | 1#2 => .frameB1 (b.extractLsb' 3 3) (b.extractLsb' 0 3)
  | 2#2 => .frameB2 (b.extractLsb' 0 6)
  | _ => .frameB3 (b.extractLsb' 0 6)

/-- The three encoded forms. -/
inductive Encoded
  /-- a 32-bit operation record -/
  | record (r : Record)
  /-- a 15-bit Channel-10 word -/
  | word (w : ChanWord)
  /-- an 8-bit frame byte -/
  | byte (b : Byte)
  deriving DecidableEq, Repr

/-- The decoder over all three forms. -/
def decode : Encoded → Except DecodeError Instr
  | .record r => decodeRecord r
  | .word w => .ok (decodeWord w)
  | .byte b => .ok (decodeByte b)

/-- The instruction the decoder reads from a row of spec/opcode_table.json. The row's width tells its format:
a byte, a 15-bit word in two bytes, or a 32-bit record (log entry 7). -/
def decodeTableWord (nbits w : Nat) : Option Instr :=
  if nbits ≤ 8 then
    if w < 2 ^ 8 then some (decodeByte (BitVec.ofNat 8 w)) else none
  else if nbits ≤ 16 then
    if w < 2 ^ 15 then some (decodeWord (BitVec.ofNat 15 w)) else none
  else if w < 2 ^ 32 then (decodeRecord (BitVec.ofNat 32 w)).toOption else none

/-! ## Encoding -/

/-- A record from its four fields (R48). -/
def packRecord (tag : BitVec 4) (rsv : BitVec 8) (idx : BitVec 4) (arg : BitVec 16) : Record :=
  tag ++ rsv ++ idx ++ arg

/-- A record with `rsv = 0`. -/
def packOp (tag idx : BitVec 4) (arg : BitVec 16) : Record := packRecord tag 0 idx arg

/-- A Bool in `arg[0]`. -/
def flagArg (v : Bool) : BitVec 16 := (0#15 ++ BitVec.ofBool v : BitVec 16)

/-- A Channel-10 word from its fields (R38). -/
def packWord (rw : BitVec 4) (sb : Bool) (up lo : BitVec 5) : ChanWord :=
  rw ++ BitVec.ofBool sb ++ up ++ lo

/-- The encoding of an instruction (R38, R44, R48, R49). An ill-formed one gets an encoding the decoder rejects. -/
def encode : Instr → Encoded
  | .unassigned0 rest => .record (0x0#4 ++ rest : BitVec 32)
  | .ch10SetBit i v => .record (packOp 0x1 i (flagArg v))
  | .ch10Write w => .record (packOp 0x2 0 w)
  | .dispStrobe => .record (packOp 0x3 0 0)
  | .ch11SetBit i v => .record (packOp 0x4 i (flagArg v))
  | .ch11Write w => .record (packOp 0x5 0 w)
  | .indcStrobe => .record (packOp 0x6 0 0)
  | .trackerSetBit i v => .record (packOp 0x7 i (flagArg v))
  | .byteIn b => .record (packOp 0x8 0 (0#8 ++ b : BitVec 16))
  | .keyIn k => .record (packOp 0x9 0 k)
  | .reset => .record (packOp 0xA 0 0)
  | .transportStatus role up => .record (packOp 0xB role (flagArg up))
  | .standby => .record (packOp 0xC 0 0)
  | .keyboardStrobe => .record (packOp 0xD 0 0)
  | .proceed => .record (packOp 0xE 0 0)
  | .unassignedF rest => .record (0xF#4 ++ rest : BitVec 32)
  | .rw0 sb up lo => .word (packWord 0 sb up lo)
  | .rw1 sb up lo => .word (packWord 1 sb up lo)
  | .rw2 sb up lo => .word (packWord 2 sb up lo)
  | .rw3 sb up lo => .word (packWord 3 sb up lo)
  | .rw4 sb up lo => .word (packWord 4 sb up lo)
  | .rw5 sb up lo => .word (packWord 5 sb up lo)
  | .rw6 sb up lo => .word (packWord 6 sb up lo)
  | .rw7 sb up lo => .word (packWord 7 sb up lo)
  | .rw8 sb up lo => .word (packWord 8 sb up lo)
  | .rw9 sb up lo => .word (packWord 9 sb up lo)
  | .rw10 sb up lo => .word (packWord 10 sb up lo)
  | .rw11 sb up lo => .word (packWord 11 sb up lo)
  | .rw12 sb up lo => .word (packWord 12 sb up lo)
  | .rw13 sb up lo => .word (packWord 13 sb up lo)
  | .rw14 sb up lo => .word (packWord 14 sb up lo)
  | .rw15 sb up lo => .word (packWord 15 sb up lo)
  | .frameB0 ign chHi => .byte (0#2 ++ ign ++ chHi : BitVec 8)
  | .frameB1 chLo dHi => .byte (1#2 ++ chLo ++ dHi : BitVec 8)
  | .frameB2 dMid => .byte (2#2 ++ dMid : BitVec 8)
  | .frameB3 dLo => .byte (3#2 ++ dLo : BitVec 8)

end Sys2Proof
end

