-- ==== Sys2Proof/Machine/Params.lean ====
section
/-! DEFINITION. The parameters' accessors, domains and defaults (00_scope.md R7, 30_encoding.md R42, R43,
45_command_encoder.md R88). -/

namespace Sys2Proof.Machine

/-! ## One value per row, role, lamp -/

/-- The value of a row. -/
def rowGet {α : Type} (v : PerRow α) : Row → α
  | .r1 => v.r1
  | .r2 => v.r2
  | .r3 => v.r3

/-- Replaces the value of a row. -/
def rowSet {α : Type} (v : PerRow α) (r : Row) (x : α) : PerRow α :=
  match r with
  | .r1 => { v with r1 := x }
  | .r2 => { v with r2 := x }
  | .r3 => { v with r3 := x }

/-- The value of a role. -/
def roleGet {α : Type} (v : PerRole α) : Role → α
  | .display => v.display
  | .indicator => v.indicator

/-- Replaces the value of a role. -/
def roleSet {α : Type} (v : PerRole α) (r : Role) (x : α) : PerRole α :=
  match r with
  | .display => { v with display := x }
  | .indicator => { v with indicator := x }

/-- The value of a lamp bit. -/
def lampGet {α : Type} (v : PerLamp α) : LampBit → α
  | .b3 => v.b3
  | .b4 => v.b4
  | .b5 => v.b5
  | .b6 => v.b6
  | .b8 => v.b8
  | .b9 => v.b9

/-- Replaces the value of a lamp bit. -/
def lampSet {α : Type} (v : PerLamp α) (b : LampBit) (x : α) : PerLamp α :=
  match b with
  | .b3 => { v with b3 := x }
  | .b4 => { v with b4 := x }
  | .b5 => { v with b5 := x }
  | .b6 => { v with b6 := x }
  | .b8 => { v with b8 := x }
  | .b9 => { v with b9 := x }

/-! ## Listings and positions -/

/-- The 21 digit fields in R39's order. -/
def digitFields : List DigitField :=
  [.md1, .md2, .vd1, .vd2, .nd1, .nd2, .r1d1, .r1d2, .r1d3, .r1d4, .r1d5,
   .r2d1, .r2d2, .r2d3, .r2d4, .r2d5, .r3d1, .r3d2, .r3d3, .r3d4, .r3d5]

/-- The six lamp bits in ascending register bit order (42_display_decoder.md R65). -/
def lampBits : List LampBit := [.b3, .b4, .b5, .b6, .b8, .b9]

/-- A digit field's position in `digitFields`. -/
def fieldIdx : DigitField → Fin 21
  | .md1 => 0
  | .md2 => 1
  | .vd1 => 2
  | .vd2 => 3
  | .nd1 => 4
  | .nd2 => 5
  | .r1d1 => 6
  | .r1d2 => 7
  | .r1d3 => 8
  | .r1d4 => 9
  | .r1d5 => 10
  | .r2d1 => 11
  | .r2d2 => 12
  | .r2d3 => 13
  | .r2d4 => 14
  | .r2d5 => 15
  | .r3d1 => 16
  | .r3d2 => 17
  | .r3d3 => 18
  | .r3d4 => 19
  | .r3d5 => 20

/-- A lamp name's position in `CmdCodes.lamp`. -/
def lampIdx : Lamp → Fin 26
  | .vel => 0
  | .noAtt => 1
  | .alt => 2
  | .gimbalLock => 3
  | .tracker => 4
  | .prog => 5
  | .uplinkActy => 6
  | .temp => 7
  | .keyRel => 8
  | .vnFlash => 9
  | .oprErr => 10
  | .other k => ⟨11 + k.val, by omega⟩

/-- The 26 lamp names in the order of `lampIdx`. -/
def allLamps : List Lamp :=
  [.vel, .noAtt, .alt, .gimbalLock, .tracker, .prog, .uplinkActy, .temp, .keyRel, .vnFlash, .oprErr,
   .other 0, .other 1, .other 2, .other 3, .other 4, .other 5, .other 6, .other 7, .other 8, .other 9,
   .other 10, .other 11, .other 12, .other 13, .other 14]

/-! ## CMD_CODE -/

/-- `CMD_CODE` at a name (R88); the role is the name's own (`cmdRole`). -/
def codeOf (c : CmdCodes) : CmdName → Bytes
  | .digit f => c.digit[fieldIdx f]
  | .sign r => rowGet c.sign r
  | .acty => c.acty
  | .lamp n => c.lamp[lampIdx n]
  | .reset role => roleGet c.reset role

/-- The role in whose command-number space a name stands (30_encoding.md R46). -/
def cmdRole : CmdName → Role
  | .digit _ => .display
  | .sign _ => .display
  | .acty => .display
  | .lamp _ => .indicator
  | .reset role => role

/-- The LAMP names of `CH11_MAP`. -/
def ch11Lamps (p : Params) : List Lamp :=
  p.ch11Map.toList.filterMap fun
    | some (.lamp n) => some n
    | _ => none

/-- The six names of `LAMP12_MAP`, in register bit order. -/
def lamp12Names (p : Params) : List Lamp := lampBits.map (lampGet p.lamp12Map)

/-- The names for which `CMD_CODE` is defined (R88 (a)). -/
def cmdNames (p : Params) : List CmdName :=
  digitFields.map .digit ++ [.sign .r1, .sign .r2, .sign .r3, .acty, .reset .display, .reset .indicator]
    ++ (lamp12Names p ++ ch11Lamps p).map .lamp

/-- An ASCII decimal digit, 0x30..0x39. -/
def asciiDigit (b : Byte) : Bool := 0x30 ≤ b.toNat ∧ b.toNat ≤ 0x39

/-- R88 (b): a command number is a non-empty string of ASCII decimal digits. -/
def codeShapeOk (c : Bytes) : Bool := c ≠ [] ∧ c.all asciiDigit

/-- R88 (b), (c), (d): shapes, one-byte reset codes, distinct codes for distinct names of one role. -/
def codesOk (p : Params) : Bool :=
  (cmdNames p).all (fun n => codeShapeOk (codeOf p.cmdCodes n)) &&
  (codeOf p.cmdCodes (.reset .display)).length == 1 && (codeOf p.cmdCodes (.reset .indicator)).length == 1 &&
  (cmdNames p).all (fun a => (cmdNames p).all fun b =>
    a == b || cmdRole a != cmdRole b || codeOf p.cmdCodes a != codeOf p.cmdCodes b)

/-! ## The domains of R7 -/

/-- The six lamp names of R42, the names `LAMP12_MAP` is onto. -/
def lamp12NameSet : List Lamp := [.vel, .noAtt, .alt, .gimbalLock, .tracker, .prog]

/-- `LAMP12_MAP` is a bijection onto the six names: each name occurs. -/
def lamp12MapOk (p : Params) : Bool := lamp12NameSet.all fun n => (lamp12Names p).contains n

/-- `CH11_MAP` has exactly one entry of kind ACTY. -/
def ch11MapOk (p : Params) : Bool := p.ch11Map.toList.count (some .compActy) == 1

/-- The parameters are in the domains of R7 and R88. `KEY_CHANNEL` 0..127 is its type. -/
def paramsOk (p : Params) : Bool := lamp12MapOk p && ch11MapOk p && codesOk p

/-! ## Defaults (R7) -/

/-- The default `LAMP12_MAP` (R42). PRESUMED (the spec's own general knowledge, G2), log entry 11. -/
def defaultLamp12Map : PerLamp Lamp :=
  { b3 := .vel, b4 := .noAtt, b5 := .alt, b6 := .gimbalLock, b8 := .tracker, b9 := .prog }

/-- The default `CH11_MAP` (R43): bit 2 COMP_ACTY, bits 3..7 lamps. PRESUMED (G3), log entry 11. -/
def defaultCh11Map : Vector (Option Ch11Entry) 15 :=
  #v[none, some .compActy, some (.lamp .uplinkActy), some (.lamp .temp), some (.lamp .keyRel),
     some (.lamp .vnFlash), some (.lamp .oprErr), none, none, none, none, none, none, none, none]

/-- A code table from a code per name. -/
def codesFrom (code : CmdName → Bytes) : CmdCodes :=
  { digit := ⟨(digitFields.map fun f => code (.digit f)).toArray, rfl⟩
    sign := { r1 := code (.sign .r1), r2 := code (.sign .r2), r3 := code (.sign .r3) }
    acty := code .acty
    lamp := ⟨(allLamps.map fun n => code (.lamp n)).toArray, rfl⟩
    reset := { display := code (.reset .display), indicator := code (.reset .indicator) } }

/-- The ASCII digits of a number below 100, without a leading zero. -/
def asciiNum (n : Nat) : Bytes :=
  if n < 10 then [BitVec.ofNat 8 (0x30 + n)] else [BitVec.ofNat 8 (0x30 + n / 10), BitVec.ofNat 8 (0x30 + n % 10)]

/-- The test assignment of 95_test_vectors.md section 0 ("not the hardware's values"), the spare lamp names numbered
on. It witnesses that R88 can be met and serves the tests; the machine's own codes stay free (log entry 5). -/
def fixtureCode : CmdName → Bytes
  | .digit f => asciiNum ((fieldIdx f).val + 1)
  | .sign .r1 => asciiNum 22
  | .sign .r2 => asciiNum 23
  | .sign .r3 => asciiNum 24
  | .acty => asciiNum 25
  | .lamp n => asciiNum ((lampIdx n).val + 1)
  | .reset _ => asciiNum 0

/-- The defaults of R7 with a given `CMD_CODE`. -/
def defaultParams (c : CmdCodes) : Params :=
  { signFlagMode := .follow
    signPrecedence := .hold
    lamp12Map := defaultLamp12Map
    ch11Map := defaultCh11Map
    p3Mismatch := .yieldPair
    keyChannel := 13
    cmdCodes := c
    cmdTerminator := []
    connAtPowerOn := { display := true, indicator := true } }

/-- The OPEN `CMD_CODE`: the free value, kept within R88 (a free value that broke R88 would be no hardware's; then,
and only then, the fixture stands in, and nothing can be proved about which case holds). Log entry 5. -/
def openCodes : CmdCodes :=
  if codesOk (defaultParams (codesFrom Config.freeCmdCode)) then codesFrom Config.freeCmdCode
  else codesFrom fixtureCode

end Sys2Proof.Machine
end

