-- ==== Sys2Proof/Machine/State.lean ====
section
/-! DEFINITION. The block's state (10_state.md R11, with the outputs of R21), the reasons a step could stop, and the
power-on state (70_reset_and_hazards.md R113). -/

namespace Sys2Proof.Machine

/-- The parser's position, 0..3 (10_state.md R19). -/
inductive FramePos | p0 | p1 | p2 | p3
  deriving DecidableEq, Repr

/-- A condition record (60_exceptions.md R101, R102): the constructor is the code, the arguments the operand. -/
inductive Condition
  /-- code 1 -/
  | invalidPattern (f : DigitField) (p : BitVec 5)
  /-- code 2 -/
  | invalidRelayWord (rw : BitVec 4)
  /-- code 3 -/
  | transportUnavailable (role : Role)
  deriving DecidableEq, Repr

/-- The reason of a refusal (46_control_events.md R97 to R100). -/
inductive RefusalReason
  | standbyNotDescribed | keyboardStrobeNotDescribed | proceedNotDescribed | malformedRecord
  deriving DecidableEq, Repr

/-- Reasons to stop with a fault: none. Nobody raises one, because no condition of the block interrupts an operation
(60_exceptions.md R103: "No trap mechanism"); conditions are records in `cond`. -/
inductive Fault
  deriving DecidableEq, Repr

/-- Reasons a step gives no meaning. The spec's own refusal (46_control_events.md R96) is NOT one of these: it has an
effect (the sticky mark and the reason) and the block goes on, so it is a next state. -/
inductive Refusal
  /-- An instruction the model gives no meaning; raised by a rejected arm of `exec` only (safe). No arm is rejected. -/
  | notModelled (mnemonic : String)
  deriving DecidableEq, Repr

/-- The state of the block. -/
@[ext]
structure State where
  /-- `C10`, the Channel-10 register (R12) -/
  c10 : ChanWord
  /-- `C11`, the Channel-11 register (R13) -/
  c11 : ChanWord
  /-- `plus[1..3]` (R14) -/
  plus : PerRow Bool
  /-- `minus[1..3]` (R14) -/
  minus : PerRow Bool
  /-- `sout[1..3]` (R15) -/
  sout : PerRow Sign
  /-- `dcache`, one digit per field (R16) -/
  dcache : Vector Digit 21
  /-- `S11`, the tracker's stored bits (R18) -/
  s11 : ChanWord
  /-- `L12`, the relay-word-12 lamp state (R17) -/
  l12 : PerLamp Bool
  /-- `fpos` (R19) -/
  fpos : FramePos
  /-- `fchan` (R19) -/
  fchan : BitVec 7
  /-- `fdata` (R19) -/
  fdata : BitVec 15
  /-- `conn` (R20) -/
  conn : PerRole Bool
  /-- the sticky refusal mark (R21, R96) -/
  refused : Bool
  /-- `REFUSALS`, oldest first (R21, R96) -/
  refusals : List RefusalReason
  /-- `OUT`, commands in generation order (R21) -/
  out : PerRole (List Bytes)
  /-- `KOUT` (R21) -/
  kout : Bytes
  /-- `COND`, in generation order (R21, R102) -/
  cond : List Condition
  /-- the parameters of R7, fixed for a run (R22; log entry 3) -/
  params : Params
  /-- operation records the environment has delivered and the block has not applied, oldest first (R5, R34, D34;
  log entry 1) -/
  input : List Record
  deriving DecidableEq, Repr

/-- The power-on state under given parameters (R11, R113). -/
def State.powerOn (p : Params) : State :=
  { c10 := 0
    c11 := 0
    plus := { r1 := false, r2 := false, r3 := false }
    minus := { r1 := false, r2 := false, r3 := false }
    sout := { r1 := .blank, r2 := .blank, r3 := .blank }
    dcache := Vector.replicate 21 .blank
    s11 := 0
    l12 := { b3 := false, b4 := false, b5 := false, b6 := false, b8 := false, b9 := false }
    fpos := .p0
    fchan := 0
    fdata := 0
    conn := p.connAtPowerOn
    refused := false
    refusals := []
    out := { display := [], indicator := [] }
    kout := []
    cond := []
    params := p
    input := [] }

/-- The machine at the start of a run: power-on with the default parameters (R7, R113; log entries 4, 5). -/
def State.reset : State := State.powerOn (defaultParams openCodes)

end Sys2Proof.Machine
end

