-- ==== Sys2Proof/Machine/Operands.lean ====
section
/-! DEFINITION. Operand forms: register bits and whole values (20_memory.md R25 to R27), the seven-segment table
(41_segment_codec.md R57), the digit cache's positions, the lamp bits (30_encoding.md R42). -/

namespace Sys2Proof.Machine

/-- The register bit an index 0..15 names; index 0 names none (R26, D3). -/
def regBitOf (i : BitVec 4) : Option RegBit :=
  if h : i.toNat = 0 then none else some ⟨i.toNat - 1, by have := i.isLt; omega⟩

/-- Reads a register bit (R25). -/
def getBit (c : ChanWord) (k : RegBit) : Bool := c.getLsbD k.val

/-- Writes a register bit, the other 14 unchanged (R26). -/
def setBit (c : ChanWord) (k : RegBit) (v : Bool) : ChanWord :=
  if v then c ||| (1#15 <<< k.val) else c &&& ~~~(1#15 <<< k.val)

/-- A per-bit write by index: index 0 changes nothing (R26). -/
def setIndexed (c : ChanWord) (i : BitVec 4) (v : Bool) : ChanWord :=
  match regBitOf i with
  | none => c
  | some k => setBit c k v

/-- A whole-value write: integer bit j to register bit j+1, bit 15 ignored (R27). -/
def assignWhole (w : BitVec 16) : ChanWord := w.setWidth 15

/-- SEG_DECODE (R57, R41); `none` is INVALID. -/
def segDecode (p : BitVec 5) : Option Digit :=
  match p with
  | 0#5 => some .blank
  | 21#5 => some (.num 0)
  | 3#5 => some (.num 1)
  | 25#5 => some (.num 2)
  | 27#5 => some (.num 3)
  | 15#5 => some (.num 4)
  | 30#5 => some (.num 5)
  | 28#5 => some (.num 6)
  | 19#5 => some (.num 7)
  | 29#5 => some (.num 8)
  | 31#5 => some (.num 9)
  | _ => none

/-- A digit as the integer -1..9 (R9). -/
def digitVal : Digit → Int
  | .blank => -1
  | .num n => n.val

/-- `dcache[f]` (R16). -/
def cacheGet (cache : Vector Digit 21) (f : DigitField) : Digit := cache[fieldIdx f]

/-- Replaces `dcache[f]`. -/
def cacheSet (cache : Vector Digit 21) (f : DigitField) (d : Digit) : Vector Digit 21 := cache.set (fieldIdx f) d

/-- The register bit of a lamp bit (R42). -/
def lampRegBit : LampBit → RegBit
  | .b3 => 2
  | .b4 => 3
  | .b5 => 4
  | .b6 => 5
  | .b8 => 7
  | .b9 => 8

/-- The lamp bit source of a word: `C10[b]`, or `d[b-1]` of a channel-115 frame (R65, R86). -/
def lampSource (w : ChanWord) (b : LampBit) : Bool := getBit w (lampRegBit b)

/-- The role a TRANSPORT_STATUS role field names (R48); above 1 none. -/
def roleOf (i : BitVec 4) : Option Role :=
  if i = 0 then some .display else if i = 1 then some .indicator else none

end Sys2Proof.Machine
end

