-- ==== Sys2Proof/Machine/Encoder.lean ====
section
/-! DEFINITION. The command encoder (45_command_encoder.md R88 to R93, formats 30_encoding.md R46, R47) and the
key-press frame (R45). -/

namespace Sys2Proof.Machine

/-- The value byte of a digit: '0' + d, or a space for blank (R47). The ASCII values are PRESUMED (G1), log entry 11. -/
def digitByte : Digit → Byte
  | .blank => 0x20
  | .num n => BitVec.ofNat 8 (0x30 + n.val)

/-- The value byte of a sign: '0' blank, '1' minus, '2' plus (R47). -/
def signByte : Sign → Byte
  | .blank => 0x30
  | .minus => 0x31
  | .plus => 0x32

/-- The value byte of a lamp or activity value (R47, D21). -/
def boolByte : Bool → Byte
  | false => 0x30
  | true => 0x31

/-- A value command: number, space, value byte, terminator (R46). -/
def valueCommand (p : Params) (n : CmdName) (v : Byte) : Bytes :=
  codeOf p.cmdCodes n ++ [0x20#8] ++ [v] ++ p.cmdTerminator

/-- ENCODE_DIGIT (R89) -/
def encodeDigit (p : Params) (f : DigitField) (d : Digit) : Bytes := valueCommand p (.digit f) (digitByte d)

/-- ENCODE_SIGN (R90) -/
def encodeSign (p : Params) (r : Row) (s : Sign) : Bytes := valueCommand p (.sign r) (signByte s)

/-- ENCODE_LAMP (R91) -/
def encodeLamp (p : Params) (n : Lamp) (v : Bool) : Bytes := valueCommand p (.lamp n) (boolByte v)

/-- ENCODE_ACTY (R92) -/
def encodeActy (p : Params) (v : Bool) : Bytes := valueCommand p .acty (boolByte v)

/-- ENCODE_RESET (R93) -/
def encodeReset (p : Params) (role : Role) : Bytes := codeOf p.cmdCodes (.reset role) ++ p.cmdTerminator

/-- The key-press frame of channel `ch` and data `d` (R45). -/
def keyFrame (ch : BitVec 7) (d : BitVec 15) : Bytes :=
  [0x00#8 ||| (ch.extractLsb' 3 4).setWidth 8,
   0x40#8 ||| ((ch.extractLsb' 0 3).setWidth 8 <<< 3) ||| (d.extractLsb' 12 3).setWidth 8,
   0x80#8 ||| (d.extractLsb' 6 6).setWidth 8,
   0xC0#8 ||| (d.extractLsb' 0 6).setWidth 8]

end Sys2Proof.Machine
end

