-- ==== Sys2Proof/Machine/Flags.lean ====
section
/-! DEFINITION. The sign flags and the net sign (42_display_decoder.md R63, R64; 90_conflicts.md C1). -/

namespace Sys2Proof.Machine

/-- A sign flag after `sb` is offered to it (R63, D4). -/
def newFlag (mode : SignFlagMode) (old sb : Bool) : Bool :=
  match mode with
  | .follow => sb
  | .setOnly => if sb then true else old

/-- The sign a flag asserts. -/
def flagSign : SignFlag → Sign
  | .plus => .plus
  | .minus => .minus

/-- NET_SIGN (R64, D5). -/
def netSign (prec : SignPrecedence) (p m : Bool) (prev : Sign) (which : SignFlag) (sb : Bool) : Sign :=
  match p, m with
  | false, false => .blank
  | true, false => .plus
  | false, true => .minus
  | true, true =>
    if prec = .mostRecent ∧ sb then flagSign which
    else if prev ≠ .blank then prev
    else flagSign which

end Sys2Proof.Machine
end

