-- ==== Sys2Proof/Machine/Ops.lean ====
section
/-! DEFINITION. The named operations over the state: the primitives of 00_scope.md R10 (report, refuse, emit, send)
and the shared steps of the families. The block takes no exception (60_exceptions.md R103): what stands in its place
is `report`, one shared operation, after which the caller runs on, and `refuse`. There is nothing to return from. -/

namespace Sys2Proof.Machine

/-- `report(cond)` (60_exceptions.md R102): appends a condition record, no other effect. -/
def report (c : Condition) (s : State) : State := { s with cond := s.cond ++ [c] }

/-- `refuse(reason)` (46_control_events.md R96): the sticky mark and the reason, no other effect. -/
def refuse (r : RefusalReason) (s : State) : State := { s with refused := true, refusals := s.refusals ++ [r] }

/-- `emit(role, bytes)` (45_command_encoder.md R94): one command, or dropped with a condition. -/
def emit (role : Role) (cmd : Bytes) (s : State) : State :=
  if roleGet s.conn role then { s with out := roleSet s.out role (roleGet s.out role ++ [cmd]) }
  else report (.transportUnavailable role) s

/-- `send(bytes)` (00_scope.md R10): appends to the key-frame output. -/
def send (bs : Bytes) (s : State) : State := { s with kout := s.kout ++ bs }

/-- DIGIT_UPDATE(f, p) (42_display_decoder.md R62). -/
def digitUpdate (f : DigitField) (p : BitVec 5) (s : State) : State :=
  match segDecode p with
  | none => report (.invalidPattern f p) s
  | some d => emit .display (encodeDigit s.params f d) { s with dcache := cacheSet s.dcache f d }

/-- The flag step of SIGN_UPDATE (R63): `sb` is offered to the named flag of the row. -/
def offerSign (r : Row) (which : SignFlag) (sb : Bool) (s : State) : State :=
  match which with
  | .plus => { s with plus := rowSet s.plus r (newFlag s.params.signFlagMode (rowGet s.plus r) sb) }
  | .minus => { s with minus := rowSet s.minus r (newFlag s.params.signFlagMode (rowGet s.minus r) sb) }

/-- A row's net sign from its flags as they stand (R64). -/
def rowNet (r : Row) (which : SignFlag) (sb : Bool) (s : State) : Sign :=
  netSign s.params.signPrecedence (rowGet s.plus r) (rowGet s.minus r) (rowGet s.sout r) which sb

/-- The output step of SIGN_UPDATE (R63): a command only when the net sign changed. -/
def commandSign (r : Row) (n : Sign) (s : State) : State :=
  if n = rowGet s.sout r then s
  else emit .display (encodeSign s.params r n) { s with sout := rowSet s.sout r n }

/-- SIGN_UPDATE(r, which, sb) (R63). -/
def signUpdate (r : Row) (which : SignFlag) (sb : Bool) (s : State) : State :=
  commandSign r (rowNet r which sb (offerSign r which sb s)) (offerSign r which sb s)

/-- One lamp of LAMP12_UPDATE (R65): a command only when the value changed. -/
def lampStep (b : LampBit) (v : Bool) (s : State) : State :=
  if v = lampGet s.l12 b then s
  else emit .indicator (encodeLamp s.params (lampGet s.params.lamp12Map b) v) { s with l12 := lampSet s.l12 b v }

/-- LAMP12_UPDATE(bit) (R65): the six lamps in ascending register bit order. -/
def lamp12Update (bit : LampBit → Bool) (s : State) : State :=
  lampBits.foldl (fun t b => lampStep b (bit b) t) s

/-- The command of a changed Channel-11 bit, by its map entry (43_indicator_tracker.md R80, D12, D23). -/
def trackerCommand (e : Option Ch11Entry) (v : Bool) (s : State) : State :=
  match e with
  | none => s
  | some (.lamp n) => emit .indicator (encodeLamp s.params n v) s
  | some .compActy => emit .display (encodeActy s.params v) s

/-- TRK_SETBIT(i, v) for i in 1..15 (R80). -/
def trkSetBit (k : RegBit) (v : Bool) (s : State) : State :=
  if v = getBit s.s11 k then s
  else trackerCommand s.params.ch11Map[k] v { s with s11 := setBit s.s11 k v }

/-- TRK_SETBIT by an index 0..15: index 0 returns at once (R80). -/
def trkSetIndexed (i : BitVec 4) (v : Bool) (s : State) : State :=
  match regBitOf i with
  | none => s
  | some k => trkSetBit k v s

/-- Every bit of `C11` presented to the tracker in ascending order (R82). -/
def presentAll (s : State) : State :=
  allRegBits.foldl (fun t k => trkSetBit k (getBit t.c11 k) t) s

/-- The RESET of the display decoder's state, up to its command (70_reset_and_hazards.md R112). -/
def clearDisplay (s : State) : State :=
  { s with
    c10 := 0
    plus := { r1 := false, r2 := false, r3 := false }
    minus := { r1 := false, r2 := false, r3 := false }
    sout := { r1 := .blank, r2 := .blank, r3 := .blank }
    dcache := Vector.replicate 21 .blank
    l12 := { b3 := false, b4 := false, b5 := false, b6 := false, b8 := false, b9 := false } }

/-- The RESET of the tracker's state, up to its command (R112). -/
def clearTracker (s : State) : State := { s with c11 := 0, s11 := 0 }

/-- The next operation record and the state without it (00_scope.md R5, 92_eei_decisions.md D34; log entry 1). -/
def takeInput (s : State) : Option (Record × State) :=
  match s.input with
  | [] => none
  | r :: rest => some (r, { s with input := rest })

/-- What a malformed record does (46_control_events.md R100): whatever made it malformed, the one refusal. -/
def refuseMalformed (_ : DecodeError) (s : State) : State := refuse .malformedRecord s

/-- No operation is pending: nothing happens (70_reset_and_hazards.md R120; log entry 2). -/
def idle (s : State) : State := s

/-- Places a record where the block takes its next operation from. -/
def deliver (r : Record) (s : State) : State := { s with input := r :: s.input }

/-- The outcome type of every meaning. -/
abbrev Result := Host.Outcome State Fault Refusal

end Sys2Proof.Machine
end

