-- ==== Sys2Proof/Machine/Channel.lean ====
section
/-! DEFINITION. The channel-register operations (40_channel_register.md). None of them decodes. -/

namespace Sys2Proof.Machine

/-- CH10_SET_BIT i, v (R53) -/
def execCh10SetBit (i : BitVec 4) (v : Bool) (s : State) : Result := .next { s with c10 := setIndexed s.c10 i v }

/-- CH10_WRITE w (R54) -/
def execCh10Write (w : BitVec 16) (s : State) : Result := .next { s with c10 := assignWhole w }

/-- CH11_SET_BIT i, v (R55) -/
def execCh11SetBit (i : BitVec 4) (v : Bool) (s : State) : Result := .next { s with c11 := setIndexed s.c11 i v }

/-- CH11_WRITE w (R56) -/
def execCh11Write (w : BitVec 16) (s : State) : Result := .next { s with c11 := assignWhole w }

end Sys2Proof.Machine
end

