-- ==== Sys2Proof/Machine/Control.lean ====
section
/-! DEFINITION. RESET (70_reset_and_hazards.md R112), TRANSPORT_STATUS (45_command_encoder.md R95), and what the
block refuses (46_control_events.md R97 to R100). A refusal is a next state: the sticky mark and its reason (R96). -/

namespace Sys2Proof.Machine

/-- RESET (R112): display first, then tracker, each followed by its reset command. -/
def execReset (s : State) : Result :=
  let s1 := clearDisplay s
  let s2 := emit .display (encodeReset s1.params .display) s1
  let s3 := clearTracker s2
  .next (emit .indicator (encodeReset s3.params .indicator) s3)

/-- TRANSPORT_STATUS role, up (R95); a role above 1 is malformed (R100; log entry 9). -/
def execTransportStatus (role : BitVec 4) (up : Bool) (s : State) : Result :=
  match roleOf role with
  | some r => .next { s with conn := roleSet s.conn r up }
  | none => .next (refuseMalformed .roleOutOfRange s)

/-- STANDBY (R97) -/
def execStandby (s : State) : Result := .next (refuse .standbyNotDescribed s)

/-- KEYBOARD_STROBE (R98) -/
def execKeyboardStrobe (s : State) : Result := .next (refuse .keyboardStrobeNotDescribed s)

/-- PROCEED (R99) -/
def execProceed (s : State) : Result := .next (refuse .proceedNotDescribed s)

/-- Tag 0x0 (R100): the whole record is refused. -/
def execUnassigned0 (_rest : BitVec 28) (s : State) : Result := .next (refuse .malformedRecord s)

/-- Tag 0xF (R100): the whole record is refused. -/
def execUnassignedF (_rest : BitVec 28) (s : State) : Result := .next (refuse .malformedRecord s)

end Sys2Proof.Machine
end

