-- ==== Sys2Proof/Machine/Display.lean ====
section
/-! DEFINITION. The display decoder (42_display_decoder.md): one meaning per relay word, and DISP_STROBE, which
decodes the word in `c10`. The order in a word is upper field, lower field, sign (R61). -/

namespace Sys2Proof.Machine

/-- Relay word 0: inactive (R66). -/
def execRw0 (_sb : Bool) (_up _lo : BitVec 5) (s : State) : Result := .next s

/-- Relay word 1: R3D4, R3D5, -R3S (R67). -/
def execRw1 (sb : Bool) (up lo : BitVec 5) (s : State) : Result :=
  .next (signUpdate .r3 .minus sb (digitUpdate .r3d5 lo (digitUpdate .r3d4 up s)))

/-- Relay word 2: R3D2, R3D3, +R3S (R68). -/
def execRw2 (sb : Bool) (up lo : BitVec 5) (s : State) : Result :=
  .next (signUpdate .r3 .plus sb (digitUpdate .r3d3 lo (digitUpdate .r3d2 up s)))

/-- Relay word 3: R2D5, R3D1, no sign (R69). -/
def execRw3 (_sb : Bool) (up lo : BitVec 5) (s : State) : Result :=
  .next (digitUpdate .r3d1 lo (digitUpdate .r2d5 up s))

/-- Relay word 4: R2D3, R2D4, -R2S (R70). -/
def execRw4 (sb : Bool) (up lo : BitVec 5) (s : State) : Result :=
  .next (signUpdate .r2 .minus sb (digitUpdate .r2d4 lo (digitUpdate .r2d3 up s)))

/-- Relay word 5: R2D1, R2D2, +R2S (R71). -/
def execRw5 (sb : Bool) (up lo : BitVec 5) (s : State) : Result :=
  .next (signUpdate .r2 .plus sb (digitUpdate .r2d2 lo (digitUpdate .r2d1 up s)))

/-- Relay word 6: R1D4, R1D5, -R1S (R72). -/
def execRw6 (sb : Bool) (up lo : BitVec 5) (s : State) : Result :=
  .next (signUpdate .r1 .minus sb (digitUpdate .r1d5 lo (digitUpdate .r1d4 up s)))

/-- Relay word 7: R1D2, R1D3, +R1S (R73). -/
def execRw7 (sb : Bool) (up lo : BitVec 5) (s : State) : Result :=
  .next (signUpdate .r1 .plus sb (digitUpdate .r1d3 lo (digitUpdate .r1d2 up s)))

/-- Relay word 8: R1D1 from the lower pattern alone (R74). -/
def execRw8 (_sb : Bool) (_up lo : BitVec 5) (s : State) : Result := .next (digitUpdate .r1d1 lo s)

/-- Relay word 9: ND1, ND2, no sign (R75). -/
def execRw9 (_sb : Bool) (up lo : BitVec 5) (s : State) : Result :=
  .next (digitUpdate .nd2 lo (digitUpdate .nd1 up s))

/-- Relay word 10: VD1, VD2, no sign (R76). -/
def execRw10 (_sb : Bool) (up lo : BitVec 5) (s : State) : Result :=
  .next (digitUpdate .vd2 lo (digitUpdate .vd1 up s))

/-- Relay word 11: MD1, MD2, no sign (R77). -/
def execRw11 (_sb : Bool) (up lo : BitVec 5) (s : State) : Result :=
  .next (digitUpdate .md2 lo (digitUpdate .md1 up s))

/-- Relay word 12: the six lamps, from register bits 3, 4, 5, 6, 8, 9 of the word (R78). -/
def execRw12 (sb : Bool) (up lo : BitVec 5) (s : State) : Result :=
  .next (lamp12Update (lampSource (packWord 12 sb up lo)) s)

/-- Relay word 13: invalid (R79). -/
def execRw13 (_sb : Bool) (_up _lo : BitVec 5) (s : State) : Result :=
  .next (report (.invalidRelayWord 13) s)

/-- Relay word 14: invalid (R79). -/
def execRw14 (_sb : Bool) (_up _lo : BitVec 5) (s : State) : Result :=
  .next (report (.invalidRelayWord 14) s)

/-- Relay word 15: invalid (R79). -/
def execRw15 (_sb : Bool) (_up _lo : BitVec 5) (s : State) : Result :=
  .next (report (.invalidRelayWord 15) s)

/-- The relay-word dispatch of APPLY (R60). -/
def dispatchRelay (rw : BitVec 4) (sb : Bool) (up lo : BitVec 5) (s : State) : Result :=
  match rw with
  | 0#4 => execRw0 sb up lo s
  | 1#4 => execRw1 sb up lo s
  | 2#4 => execRw2 sb up lo s
  | 3#4 => execRw3 sb up lo s
  | 4#4 => execRw4 sb up lo s
  | 5#4 => execRw5 sb up lo s
  | 6#4 => execRw6 sb up lo s
  | 7#4 => execRw7 sb up lo s
  | 8#4 => execRw8 sb up lo s
  | 9#4 => execRw9 sb up lo s
  | 10#4 => execRw10 sb up lo s
  | 11#4 => execRw11 sb up lo s
  | 12#4 => execRw12 sb up lo s
  | 13#4 => execRw13 sb up lo s
  | 14#4 => execRw14 sb up lo s
  | _ => execRw15 sb up lo s

/-- APPLY() (R60): reads `C10`, writes nothing in it. -/
def apply (s : State) : Result :=
  dispatchRelay (wordRw s.c10) (wordSb s.c10) (wordUp s.c10) (wordLo s.c10) s

/-- DISP_STROBE (R59) -/
def execDispStrobe (s : State) : Result := apply s

end Sys2Proof.Machine
end

