-- ==== Sys2Proof/Machine/Frame.lean ====
section
/-! DEFINITION. The byte-stream frame parser, its dispatcher, and the key frame (44_frame_codec.md). A byte whose
marker is not the position's is dropped (R83), but at position 3 it ends the frame (R84, 90_conflicts.md C3). -/

namespace Sys2Proof.Machine

/-- FRAME_DISPATCH(ch, d) (R85), with CH115 (R86). `KEY_CHANNEL` is not read. DEDUCED (log entry 16): where it is 8, 9
or 115, R85's prose and 20_memory.md R33 ("never acted on when received") and the cases of R85's pseudocode disagree;
the model takes the pseudocode and acts on the frame. -/
def frameDispatch (ch : BitVec 7) (d : BitVec 15) (s : State) : Result :=
  if ch = 8 then apply { s with c10 := d }
  else if ch = 9 then .next (presentAll { s with c11 := d })
  else if ch = 115 then .next (lamp12Update (lampSource d) s)
  else .next s

/-- The parser back at position 0 with a clear accumulator (R84: "always"). -/
def clearParser (s : State) : State := { s with fpos := .p0, fchan := 0, fdata := 0 }

/-- FRAME_END with a matching marker (R84): the low six data bits are merged and the pair is yielded. -/
def frameEndMatched (dLo : BitVec 6) (s : State) : Result :=
  frameDispatch s.fchan (s.fdata ||| dLo.setWidth 15) (clearParser s)

/-- FRAME_END with another marker (R84): data bits 5:0 stay 0; `P3_MISMATCH` says whether the pair is yielded. -/
def frameEndMismatched (s : State) : Result :=
  match s.params.p3Mismatch with
  | .yieldPair => frameDispatch s.fchan s.fdata (clearParser s)
  | .dropFrame => .next (clearParser s)

/-- A byte with marker 00 (R83, R84); `ign` is ignored. -/
def execFrameB0 (_ign : BitVec 2) (chHi : BitVec 4) (s : State) : Result :=
  match s.fpos with
  | .p0 => .next { s with fchan := chHi.setWidth 7 <<< 3, fdata := 0, fpos := .p1 }
  | .p1 => .next s
  | .p2 => .next s
  | .p3 => frameEndMismatched s

/-- A byte with marker 01 (R83, R84). -/
def execFrameB1 (chLo dHi : BitVec 3) (s : State) : Result :=
  match s.fpos with
  | .p0 => .next s
  | .p1 => .next { s with fchan := s.fchan ||| chLo.setWidth 7, fdata := dHi.setWidth 15 <<< 12, fpos := .p2 }
  | .p2 => .next s
  | .p3 => frameEndMismatched s

/-- A byte with marker 10 (R83, R84). -/
def execFrameB2 (dMid : BitVec 6) (s : State) : Result :=
  match s.fpos with
  | .p0 => .next s
  | .p1 => .next s
  | .p2 => .next { s with fdata := s.fdata ||| (dMid.setWidth 15 <<< 6), fpos := .p3 }
  | .p3 => frameEndMismatched s

/-- A byte with marker 11 (R83, R84). -/
def execFrameB3 (dLo : BitVec 6) (s : State) : Result :=
  match s.fpos with
  | .p0 => .next s
  | .p1 => .next s
  | .p2 => .next s
  | .p3 => frameEndMatched dLo s

/-- BYTE_IN b (R83): the byte by its marker. -/
def execByteIn (b : Byte) (s : State) : Result :=
  match byteMarker b with
  | 0#2 => execFrameB0 (b.extractLsb' 4 2) (b.extractLsb' 0 4) s
  | 1#2 => execFrameB1 (b.extractLsb' 3 3) (b.extractLsb' 0 3) s
  | 2#2 => execFrameB2 (b.extractLsb' 0 6) s
  | _ => execFrameB3 (b.extractLsb' 0 6) s

/-- KEY_IN k (R87): the key frame on `KEY_CHANNEL`; a 16-bit code is malformed (R100; log entry 9). -/
def execKeyIn (k : BitVec 16) (s : State) : Result :=
  if keyCodeOk k then .next (send (keyFrame s.params.keyChannel (k.setWidth 15)) s)
  else .next (refuseMalformed .keyCodeTooWide s)

end Sys2Proof.Machine
end

