-- ==== Sys2Proof/Machine/Tracker.lean ====
section
/-! DEFINITION. The indicator state tracker (43_indicator_tracker.md). -/

namespace Sys2Proof.Machine

/-- TRACKER_SET_BIT i, v (R81) -/
def execTrackerSetBit (i : BitVec 4) (v : Bool) (s : State) : Result := .next (trkSetIndexed i v s)

/-- INDC_STROBE (R82) -/
def execIndcStrobe (s : State) : Result := .next (presentAll s)

end Sys2Proof.Machine
end

