-- ==== Sys2Proof/Machine/Dispatch.lean ====
section
/-! DEFINITION. The dispatch of every instruction to its meaning. -/

namespace Sys2Proof.Machine

def exec (i : Instr) (s : State) : Host.Outcome State Fault Refusal :=
  match i with
  | .unassigned0 rest => Sys2Proof.Machine.execUnassigned0 rest s
  | .ch10SetBit k v => Sys2Proof.Machine.execCh10SetBit k v s
  | .ch10Write w => Sys2Proof.Machine.execCh10Write w s
  | .dispStrobe => Sys2Proof.Machine.execDispStrobe s
  | .ch11SetBit k v => Sys2Proof.Machine.execCh11SetBit k v s
  | .ch11Write w => Sys2Proof.Machine.execCh11Write w s
  | .indcStrobe => Sys2Proof.Machine.execIndcStrobe s
  | .trackerSetBit k v => Sys2Proof.Machine.execTrackerSetBit k v s
  | .byteIn b => Sys2Proof.Machine.execByteIn b s
  | .keyIn k => Sys2Proof.Machine.execKeyIn k s
  | .reset => Sys2Proof.Machine.execReset s
  | .transportStatus role up => Sys2Proof.Machine.execTransportStatus role up s
  | .standby => Sys2Proof.Machine.execStandby s
  | .keyboardStrobe => Sys2Proof.Machine.execKeyboardStrobe s
  | .proceed => Sys2Proof.Machine.execProceed s
  | .unassignedF rest => Sys2Proof.Machine.execUnassignedF rest s
  | .rw0 sb up lo => Sys2Proof.Machine.execRw0 sb up lo s
  | .rw1 sb up lo => Sys2Proof.Machine.execRw1 sb up lo s
  | .rw2 sb up lo => Sys2Proof.Machine.execRw2 sb up lo s
  | .rw3 sb up lo => Sys2Proof.Machine.execRw3 sb up lo s
  | .rw4 sb up lo => Sys2Proof.Machine.execRw4 sb up lo s
  | .rw5 sb up lo => Sys2Proof.Machine.execRw5 sb up lo s
  | .rw6 sb up lo => Sys2Proof.Machine.execRw6 sb up lo s
  | .rw7 sb up lo => Sys2Proof.Machine.execRw7 sb up lo s
  | .rw8 sb up lo => Sys2Proof.Machine.execRw8 sb up lo s
  | .rw9 sb up lo => Sys2Proof.Machine.execRw9 sb up lo s
  | .rw10 sb up lo => Sys2Proof.Machine.execRw10 sb up lo s
  | .rw11 sb up lo => Sys2Proof.Machine.execRw11 sb up lo s
  | .rw12 sb up lo => Sys2Proof.Machine.execRw12 sb up lo s
  | .rw13 sb up lo => Sys2Proof.Machine.execRw13 sb up lo s
  | .rw14 sb up lo => Sys2Proof.Machine.execRw14 sb up lo s
  | .rw15 sb up lo => Sys2Proof.Machine.execRw15 sb up lo s
  | .frameB0 ign chHi => Sys2Proof.Machine.execFrameB0 ign chHi s
  | .frameB1 chLo dHi => Sys2Proof.Machine.execFrameB1 chLo dHi s
  | .frameB2 dMid => Sys2Proof.Machine.execFrameB2 dMid s
  | .frameB3 dLo => Sys2Proof.Machine.execFrameB3 dLo s

end Sys2Proof.Machine
end

