-- ==== Sys2Proof/Machine/Step.lean ====
section
/-! DEFINITION. One step: the next operation record is taken and applied (00_scope.md R5; log entries 1, 2). -/

namespace Sys2Proof.Machine

/-- Takes the next record and runs it. A malformed record is refused before any rule runs (46_control_events.md R100);
with no record pending nothing happens. -/
def step (s : State) : Host.Outcome State Fault Refusal :=
  match takeInput s with
  | none => .next (idle s)
  | some (r, t) =>
    match decodeRecord r with
    | .ok i => exec i t
    | .error e => .next (refuseMalformed e t)

/-- `s` with an instruction of spec/opcode_table.json placed so that the next step runs it (log entries 6, 7): a record
is delivered; a Channel-10 word is put in `c10` and a DISP_STROBE delivered; a frame byte is delivered by BYTE_IN. -/
def State.withFetchWord (s : State) (nbits w : Nat) : State :=
  if nbits ≤ 8 then deliver (packOp 0x8 0 (BitVec.ofNat 16 w)) s
  else if nbits ≤ 16 then deliver (packOp 0x3 0 0) { s with c10 := BitVec.ofNat 15 w }
  else deliver (BitVec.ofNat 32 w) s

end Sys2Proof.Machine
end

