-- ==== Sys2Proof/Safety.lean ====
section
/-! DEFINITION. The terms claims are made in: what the spec's steps do, written as relations between the state before
and after; the invariants of 10_state.md R23; malformed records; the silent part of a state; runs. Every relation is
written from the rule it names, not from the machine's own operations. -/

namespace Sys2Proof.Safety

open Sys2Proof.Machine

/-! ## Command bytes (45_command_encoder.md R89 to R93) -/

/-- A value command of R46: number, space, value byte, terminator. -/
def valueBytes (p : Params) (n : CmdName) (v : Byte) : Bytes :=
  codeOf p.cmdCodes n ++ (0x20#8 :: v :: p.cmdTerminator)

/-- `DIGIT(f, d)` (R89): the value byte is a space for -1, else '0' + d. -/
def DIGIT (p : Params) (f : DigitField) (d : Digit) : Bytes :=
  valueBytes p (.digit f) (if digitVal d = -1 then 0x20#8 else BitVec.ofNat 8 (0x30 + (digitVal d).toNat))

/-- The numeric code of a sign (R47, R90). -/
def signCode : Sign → Nat
  | .blank => 0
  | .minus => 1
  | .plus => 2

/-- `SIGN(RrS, s)` (R90) -/
def SIGN (p : Params) (r : Row) (s : Sign) : Bytes := valueBytes p (.sign r) (BitVec.ofNat 8 (0x30 + signCode s))

/-- `LAMP(n, v)` (R91) -/
def LAMP (p : Params) (n : Lamp) (v : Bool) : Bytes := valueBytes p (.lamp n) (BitVec.ofNat 8 (0x30 + v.toNat))

/-- `ACTY(COMP_ACTY, v)` (R92) -/
def ACTY (p : Params) (v : Bool) : Bytes := valueBytes p .acty (BitVec.ofNat 8 (0x30 + v.toNat))

/-- `RESET(role)` (R93) -/
def RESETCMD (p : Params) (role : Role) : Bytes := codeOf p.cmdCodes (.reset role) ++ p.cmdTerminator

/-- A command the block may put in a role's output (R46): a value command of that role with a value byte of the
name's own domain (R47), or the role's reset command. -/
def CommandOf (p : Params) : Role → Bytes → Prop
  | .display, c => (∃ f d, c = DIGIT p f d) ∨ (∃ r s, c = SIGN p r s) ∨ (∃ v, c = ACTY p v) ∨ c = RESETCMD p .display
  | .indicator, c => (∃ n v, c = LAMP p n v) ∨ c = RESETCMD p .indicator

/-! ## Steps -/

/-- `emit(role, bytes)` of R94: from `s` to `t`, one command is generated. -/
def Emits (role : Role) (cmd : Bytes) (s t : State) : Prop :=
  (roleGet s.conn role = true → t = { s with out := roleSet s.out role (roleGet s.out role ++ [cmd]) }) ∧
  (roleGet s.conn role = false → t = { s with cond := s.cond ++ [.transportUnavailable role] })

/-- Commands of a role generated one after another from `s` give these outputs and conditions (R94). -/
def EmitsAll (cmds : List (Role × Bytes)) (s t : State) : Prop :=
  (∀ role, roleGet t.out role = roleGet s.out role ++
    (cmds.filter fun c => c.1 = role ∧ roleGet s.conn c.1 = true).map (·.2)) ∧
  t.cond = s.cond ++ (cmds.filter fun c => roleGet s.conn c.1 = false).map fun c => .transportUnavailable c.1

/-- DIGIT_UPDATE(f, p) of R62. -/
def DigitStep (f : DigitField) (p : BitVec 5) (s t : State) : Prop :=
  (segDecode p = none → t = { s with cond := s.cond ++ [.invalidPattern f p] }) ∧
  (∀ d, segDecode p = some d → ∃ u : State, u = { s with dcache := u.dcache } ∧
    (∀ g, cacheGet u.dcache g = if g = f then d else cacheGet s.dcache g) ∧ Emits .display (DIGIT s.params f d) u t)

/-- NET_SIGN of R64: `n` is the net sign. -/
def NetSignIs (prec : SignPrecedence) (p m : Bool) (prev : Sign) (which : SignFlag) (sb : Bool) (n : Sign) : Prop :=
  let named : Sign := match which with | .plus => .plus | .minus => .minus
  (p = false → m = false → n = .blank) ∧ (p = true → m = false → n = .plus) ∧ (p = false → m = true → n = .minus) ∧
  (p = true → m = true →
    (prec = .mostRecent → sb = true → n = named) ∧
    (¬(prec = .mostRecent ∧ sb = true) → (prev ≠ .blank → n = prev) ∧ (prev = .blank → n = named)))

/-- SIGN_UPDATE(r, which, sb) of R63. -/
def SignStep (r : Row) (which : SignFlag) (sb : Bool) (s t : State) : Prop :=
  ∃ (p m : Bool) (n : Sign),
    (which = .plus → m = rowGet s.minus r ∧
      (s.params.signFlagMode = .follow → p = sb) ∧ (s.params.signFlagMode = .setOnly → p = (rowGet s.plus r || sb))) ∧
    (which = .minus → p = rowGet s.plus r ∧
      (s.params.signFlagMode = .follow → m = sb) ∧ (s.params.signFlagMode = .setOnly → m = (rowGet s.minus r || sb))) ∧
    NetSignIs s.params.signPrecedence p m (rowGet s.sout r) which sb n ∧
    (n = rowGet s.sout r → t = { s with plus := rowSet s.plus r p, minus := rowSet s.minus r m }) ∧
    (n ≠ rowGet s.sout r → Emits .display (SIGN s.params r n)
      { s with plus := rowSet s.plus r p, minus := rowSet s.minus r m, sout := rowSet s.sout r n } t)

/-- LAMP12_UPDATE(bit) of R65, in closed form: the six lamps take their bits; one command for each changed lamp, in
ascending register bit order; nothing else changes. -/
def LampsStep (bit : LampBit → Bool) (s t : State) : Prop :=
  t = { s with l12 := t.l12, out := t.out, cond := t.cond } ∧
  (∀ b, lampGet t.l12 b = bit b) ∧
  EmitsAll (([.b3, .b4, .b5, .b6, .b8, .b9] : List LampBit).filterMap fun b =>
    if bit b = lampGet s.l12 b then none
    else some (.indicator, LAMP s.params (lampGet s.params.lamp12Map b) (bit b))) s t

/-- The command of a changed Channel-11 bit `k` (R80), if `CH11_MAP` maps it. -/
def trackerCmd (p : Params) (k : RegBit) (v : Bool) : Option (Role × Bytes) :=
  match p.ch11Map[k] with
  | none => none
  | some (.lamp n) => some (.indicator, LAMP p n v)
  | some .compActy => some (.display, ACTY p v)

/-- TRK_SETBIT for register bit `k` of R80. -/
def TrackStep (k : RegBit) (v : Bool) (s t : State) : Prop :=
  (v = getBit s.s11 k → t = s) ∧
  (v ≠ getBit s.s11 k →
    t = { s with s11 := t.s11, out := t.out, cond := t.cond } ∧
    (∀ j, getBit t.s11 j = if j = k then v else getBit s.s11 j) ∧
    EmitsAll (trackerCmd s.params k v).toList s t)

/-- Every bit of `C11` presented to the tracker (R82), in closed form: `S11` becomes `C11`; one command for each
changed mapped bit, in ascending bit order; nothing else changes. -/
def StrobeStep (s t : State) : Prop :=
  t = { s with s11 := s.c11, out := t.out, cond := t.cond } ∧
  EmitsAll (allRegBits.filterMap fun k =>
    if getBit s.c11 k = getBit s.s11 k then none else trackerCmd s.params k (getBit s.c11 k)) s t

/-- The six lamp bits of a Channel-10 word or a channel-115 frame's data (R42, R86): register bit b is bit b-1. -/
def lampBitsOf (w : ChanWord) : LampBit → Bool
  | .b3 => w.getLsbD 2
  | .b4 => w.getLsbD 3
  | .b5 => w.getLsbD 4
  | .b6 => w.getLsbD 5
  | .b8 => w.getLsbD 7
  | .b9 => w.getLsbD 8

/-- The parser at position 0 with a clear accumulator (44_frame_codec.md R84). -/
def parserClear (s : State) : State := { s with fpos := .p0, fchan := 0, fdata := 0 }

/-- FRAME_DISPATCH(ch, d) of R85, with CH115 of R86: `o` is its outcome from `s`. As R85's cases have it, 8, 9 and 115
are acted on whatever `KEY_CHANNEL` is (log entry 16). -/
def Dispatched (ch : BitVec 7) (d : BitVec 15) (s : State) (o : Host.Outcome State Fault Refusal) : Prop :=
  (ch = 8 → o = exec .dispStrobe { s with c10 := d }) ∧
  (ch = 9 → o = exec .indcStrobe { s with c11 := d }) ∧
  (ch = 115 → ∃ t, o = .next t ∧ LampsStep (lampBitsOf d) s t) ∧
  (ch ≠ 8 → ch ≠ 9 → ch ≠ 115 → o = .next s)

/-- `KEY_CHANNEL` is outside the set {8, 9, 115}: the case in which R85 and 20_memory.md R33 speak with one voice on a
received frame (log entry 16 is about the other). -/
def KeyChannelApart (p : Params) : Prop := p.keyChannel ≠ 8 ∧ p.keyChannel ≠ 9 ∧ p.keyChannel ≠ 115

/-- The relay word that carries a row's plus sign (30_encoding.md R40). -/
def plusWord : Row → Bool → BitVec 5 → BitVec 5 → Instr
  | .r1 => .rw7
  | .r2 => .rw5
  | .r3 => .rw2

/-- The relay word that carries a row's minus sign (30_encoding.md R40). -/
def minusWord : Row → Bool → BitVec 5 → BitVec 5 → Instr
  | .r1 => .rw6
  | .r2 => .rw4
  | .r3 => .rw1

/-- What APPLY of R60 does for one relay word `rw`: by its mask, a Channel-10 word decodes to `mk`; and `mk` completes
from every state, related to it by `R`. -/
def RelayWordRuns (rw : BitVec 4) (mk : Bool → BitVec 5 → BitVec 5 → Instr)
    (R : Bool → BitVec 5 → BitVec 5 → State → State → Prop) : Prop :=
  (∀ w : ChanWord, w &&& 0x7800#15 = rw.setWidth 15 <<< 11 →
    decodeWord w = mk (w.getLsbD 10) (w.extractLsb' 5 5) (w.extractLsb' 0 5)) ∧
  (∀ sb up lo s, ∃ t, exec (mk sb up lo) s = .next t ∧ R sb up lo s t)

/-- Upper field, lower field, sign, in that order (R61). -/
def TwoFieldsAndSign (fu fl : DigitField) (r : Row) (which : SignFlag) (sb : Bool) (up lo : BitVec 5) (s t : State) : Prop :=
  ∃ a b, DigitStep fu up s a ∧ DigitStep fl lo a b ∧ SignStep r which sb b t

/-- Upper field, lower field, in that order (R61); the sign bit is not read. -/
def TwoFields (fu fl : DigitField) (_sb : Bool) (up lo : BitVec 5) (s t : State) : Prop :=
  ∃ a, DigitStep fu up s a ∧ DigitStep fl lo a t

/-! ## Malformed records (46_control_events.md R100) -/

/-- R100, field by field: a record of these fields is malformed (30_encoding.md R48, R49). -/
abbrev MalformedFields (tag rsv idx arg : Nat) : Prop :=
  tag = 0x0 ∨ tag = 0xF ∨ rsv ≠ 0 ∨
  (tag ∈ [0x1, 0x4, 0x7] ∧ 2 ≤ arg) ∨
  (tag ∈ [0x2, 0x5] ∧ idx ≠ 0) ∨
  (tag ∈ [0x3, 0x6, 0xA, 0xC, 0xD, 0xE] ∧ (idx ≠ 0 ∨ arg ≠ 0)) ∨
  (tag = 0x8 ∧ (idx ≠ 0 ∨ 2 ^ 8 ≤ arg)) ∨
  (tag = 0x9 ∧ (idx ≠ 0 ∨ 2 ^ 15 ≤ arg)) ∨
  (tag = 0xB ∧ (2 ≤ idx ∨ 2 ≤ arg))

/-- A malformed record: tag 31:28, rsv 27:20, idx 19:16, arg 15:0. -/
abbrev Malformed (r : Record) : Prop :=
  MalformedFields (r.toNat / 2 ^ 28) (r.toNat / 2 ^ 20 % 2 ^ 8) (r.toNat / 2 ^ 16 % 2 ^ 4) (r.toNat % 2 ^ 16)

/-! ## Invariants (10_state.md R23) -/

/-- R23 (b), (c), (e), the parser's accumulator at each position (R83, R84), the refusal mark (R96), and parameters
in their domains (R7, R88). R23 (a) and (d) hold by the types of `dcache`, `fchan` and `fdata`. -/
structure Inv (s : State) : Prop where
  params : paramsOk s.params = true
  blank_iff : ∀ r, rowGet s.sout r = .blank ↔ rowGet s.plus r = false ∧ rowGet s.minus r = false
  plus_alone : ∀ r, rowGet s.plus r = true → rowGet s.minus r = false → rowGet s.sout r = .plus
  minus_alone : ∀ r, rowGet s.plus r = false → rowGet s.minus r = true → rowGet s.sout r = .minus
  at_p0 : s.fpos = .p0 → s.fchan = 0 ∧ s.fdata = 0
  at_p1 : s.fpos = .p1 → s.fchan.extractLsb' 0 3 = 0 ∧ s.fdata = 0
  at_p2 : s.fpos = .p2 → s.fdata.extractLsb' 0 12 = 0
  at_p3 : s.fpos = .p3 → s.fdata.extractLsb' 0 6 = 0
  refused_iff : s.refused = true ↔ s.refusals ≠ []

/-- The value of the last command of name `n` in `cmds`, oldest first, since the last reset command of its role;
`false` if none (R23 (f)). -/
def lastValue (p : Params) (n : CmdName) (cmds : List Bytes) : Bool :=
  cmds.foldl (fun v c =>
    if c = valueBytes p n 0x31 then true
    else if c = valueBytes p n 0x30 ∨ c = RESETCMD p (cmdRole n) then false
    else v) false

/-- R23 (f), for the commands in the outputs: `L12` and, at the mapped bits, `S11` hold the last value commanded. A lamp
name that LAMP12_MAP and CH11_MAP share, or that CH11_MAP gives to two bits, has its commands from two places, so it is
left out (log entry 17). The unmapped bits of `S11` have no command. -/
structure CommandsAgree (s : State) : Prop where
  lamps : ∀ b, lampGet s.params.lamp12Map b ∉ ch11Lamps s.params →
    lampGet s.l12 b = lastValue s.params (.lamp (lampGet s.params.lamp12Map b)) s.out.indicator
  trackerLamps : ∀ (k : RegBit) (n : Lamp), s.params.ch11Map[k] = some (.lamp n) → n ∉ lamp12Names s.params →
    (∀ j : RegBit, s.params.ch11Map[j] = some (.lamp n) → j = k) →
    getBit s.s11 k = lastValue s.params (.lamp n) s.out.indicator
  acty : ∀ k : RegBit, s.params.ch11Map[k] = some .compActy → getBit s.s11 k = lastValue s.params .acty s.out.display

/-- Every command in the two outputs is one of R46. -/
def OutputsWellFormed (s : State) : Prop := ∀ role, ∀ c ∈ roleGet s.out role, CommandOf s.params role c

/-- The premise of R96: "Every claim about a run takes refused = 0 at its end as a premise". -/
def Unrefused (s : State) : Prop := s.refused = false

/-! ## Parts of the state -/

/-- `s` with empty outputs and no refusal: what a rule may read (10_state.md R21). -/
def silent (s : State) : State :=
  { s with out := { display := [], indicator := [] }, kout := [], cond := [], refused := false, refusals := [] }

/-- `t` is `u` with the outputs and refusals of `s` put before its own. -/
def After (s u t : State) : Prop :=
  silent t = silent u ∧ (∀ role, roleGet t.out role = roleGet s.out role ++ roleGet u.out role) ∧
  t.kout = s.kout ++ u.kout ∧ t.cond = s.cond ++ u.cond ∧ t.refusals = s.refusals ++ u.refusals ∧
  t.refused = (s.refused || u.refused)

/-- A record on the socket path: tag 8, BYTE_IN (60_exceptions.md R105). -/
def isSocket (r : Record) : Bool := r.extractLsb' 28 4 = 0x8#4

/-- The operation record of a tag, an index field and an argument, `rsv` 0, as a number (30_encoding.md R48). -/
def recordOf (tag idx arg : Nat) : Record := BitVec.ofNat 32 (tag * 2 ^ 28 + idx * 2 ^ 16 + arg)

/-- `n` steps of the machine, through the host's interface. -/
def run (n : Nat) (s : State) : Host.Outcome State Fault Refusal := Host.Core.run Sys2Proof.core n s

/-! ## Who may write what (10_state.md R11, column "written by")

A byte may end a channel-8, channel-9 or channel-115 frame, so it may write what that frame writes. -/

/-- The instructions of a Channel-10 word, relay words 0 to 15. -/
def isRelayWord : Instr → Bool
  | .rw0 _ _ _ | .rw1 _ _ _ | .rw2 _ _ _ | .rw3 _ _ _ | .rw4 _ _ _ | .rw5 _ _ _ | .rw6 _ _ _ | .rw7 _ _ _
  | .rw8 _ _ _ | .rw9 _ _ _ | .rw10 _ _ _ | .rw11 _ _ _ | .rw12 _ _ _ | .rw13 _ _ _ | .rw14 _ _ _ | .rw15 _ _ _ => true
  | _ => false

/-- BYTE_IN and the four frame bytes. -/
def isByte : Instr → Bool
  | .byteIn _ | .frameB0 _ _ | .frameB1 _ _ | .frameB2 _ | .frameB3 _ => true
  | _ => false

/-- Writers of `C10` beside bytes (R12). -/
def writesC10 : Instr → Bool
  | .ch10SetBit _ _ | .ch10Write _ | .reset => true
  | i => isByte i

/-- Writers of `C11` beside bytes (R13). -/
def writesC11 : Instr → Bool
  | .ch11SetBit _ _ | .ch11Write _ | .reset => true
  | i => isByte i

/-- Writers of `S11` beside bytes (R18). -/
def writesS11 : Instr → Bool
  | .indcStrobe | .trackerSetBit _ _ | .reset => true
  | i => isByte i

/-- Writers of `L12` beside bytes (R17). -/
def writesL12 : Instr → Bool
  | .dispStrobe | .rw12 _ _ _ | .reset => true
  | i => isByte i

/-- Writers of a row's sign flags and net sign beside bytes (R14, R15): DISP_STROBE, RESET and the row's two relay
words. -/
def writesSign : Row → Instr → Bool
  | _, .dispStrobe => true
  | _, .reset => true
  | .r1, .rw6 _ _ _ => true
  | .r1, .rw7 _ _ _ => true
  | .r2, .rw4 _ _ _ => true
  | .r2, .rw5 _ _ _ => true
  | .r3, .rw1 _ _ _ => true
  | .r3, .rw2 _ _ _ => true
  | _, i => isByte i

/-- The digit fields a relay word carries (30_encoding.md R40). -/
def fieldsOf : Instr → List DigitField
  | .rw1 _ _ _ => [.r3d4, .r3d5]
  | .rw2 _ _ _ => [.r3d2, .r3d3]
  | .rw3 _ _ _ => [.r2d5, .r3d1]
  | .rw4 _ _ _ => [.r2d3, .r2d4]
  | .rw5 _ _ _ => [.r2d1, .r2d2]
  | .rw6 _ _ _ => [.r1d4, .r1d5]
  | .rw7 _ _ _ => [.r1d2, .r1d3]
  | .rw8 _ _ _ => [.r1d1]
  | .rw9 _ _ _ => [.nd1, .nd2]
  | .rw10 _ _ _ => [.vd1, .vd2]
  | .rw11 _ _ _ => [.md1, .md2]
  | _ => []

/-- Writers of a digit field's cache entry (R16). -/
def writesField (f : DigitField) : Instr → Bool
  | .dispStrobe | .reset => true
  | i => isByte i || (fieldsOf i).contains f

/-- What is refused (46_control_events.md R97 to R100): the three undescribed events, the unassigned tags, and an
ill-formed instruction. -/
def isRefused (i : Instr) : Bool :=
  match i with
  | .standby | .keyboardStrobe | .proceed | .unassigned0 _ | .unassignedF _ => true
  | _ => !i.wellFormed

end Sys2Proof.Safety
end

