-- ==== Sys2Proof/Certificates/Slice0/Obligations.lean ====
section
/-! DEFINITION. The statements for the provers. Their vocabulary is in Safety.lean. -/

open Sys2Proof Sys2Proof.Machine Sys2Proof.Safety

/-- Records, Channel-10 words and frame bytes written out from the spec decode to what they stand for. Rests on:
30_encoding.md R38, 30_encoding.md R44, 30_encoding.md R48, 30_encoding.md R49. -/
def Obligations.DecodesWordsWrittenFromTheSpec : Prop :=
  decodeRecord 0x00000000#32 = .ok (.unassigned0 0) ∧ decodeRecord 0x100F0001#32 = .ok (.ch10SetBit 15 true) ∧
  decodeRecord 0x2000DBBD#32 = .ok (.ch10Write 0xDBBD) ∧ decodeRecord 0x30000000#32 = .ok .dispStrobe ∧
  decodeRecord 0x40070000#32 = .ok (.ch11SetBit 7 false) ∧ decodeRecord 0x50000042#32 = .ok (.ch11Write 0x42) ∧
  decodeRecord 0x60000000#32 = .ok .indcStrobe ∧ decodeRecord 0x70040001#32 = .ok (.trackerSetBit 4 true) ∧
  decodeRecord 0x800000AE#32 = .ok (.byteIn 0xAE) ∧ decodeRecord 0x90000011#32 = .ok (.keyIn 0x11) ∧
  decodeRecord 0xA0000000#32 = .ok .reset ∧ decodeRecord 0xB0010000#32 = .ok (.transportStatus 1 false) ∧
  decodeRecord 0xC0000000#32 = .ok .standby ∧ decodeRecord 0xD0000000#32 = .ok .keyboardStrobe ∧
  decodeRecord 0xE0000000#32 = .ok .proceed ∧ decodeRecord 0xF0000000#32 = .ok (.unassignedF 0) ∧
  decodeWord 0x0C79#15 = .rw1 true 3 25 ∧ decodeWord 0x227D#15 = .rw4 false 19 29 ∧
  decodeWord 0x3FBB#15 = .rw7 true 29 27 ∧ decodeWord 0x47EF#15 = .rw8 true 31 15 ∧
  decodeWord 0x5BBD#15 = .rw11 false 29 29 ∧ decodeWord 0x6104#15 = .rw12 false 8 4 ∧
  decodeWord 0x7FFF#15 = .rw15 true 31 31 ∧
  decodeByte 0x31#8 = .frameB0 3 1 ∧ decodeByte 0x45#8 = .frameB1 0 5 ∧ decodeByte 0xAE#8 = .frameB2 46 ∧
  decodeByte 0xFD#8 = .frameB3 61

/-- Decoding the encoding of any well-formed instruction gives it back. Rests on: 30_encoding.md R38, 30_encoding.md
R44, 30_encoding.md R48, 30_encoding.md R49. -/
def Obligations.DecodeOfEncodeIsIdentity : Prop :=
  ∀ i : Instr, i.wellFormed = true → decode (encode i) = .ok i

/-- Whatever decodes is well formed and encodes back to the very same bits. Rests on: 30_encoding.md R38,
30_encoding.md R44, 30_encoding.md R48, 30_encoding.md R49. -/
def Obligations.EncodeOfDecodeIsIdentity : Prop :=
  ∀ (e : Encoded) (i : Instr), decode e = .ok i → i.wellFormed = true ∧ encode i = e

/-- A malformed record is refused as MALFORMED_RECORD before any rule runs; every other record runs the instruction it
names. Rests on: R100. -/
def Obligations.MalformedRecordsAreRefused : Prop :=
  (∀ (s : State) (r : Record) (rest : List Record), s.input = r :: rest → Malformed r →
    step s = .next { s with input := rest, refused := true, refusals := s.refusals ++ [.malformedRecord] }) ∧
  (∀ (s : State) (r : Record) (rest : List Record), s.input = r :: rest → ¬ Malformed r →
    ∃ i, decodeRecord r = .ok i ∧ i.wellFormed = true ∧ step s = exec i { s with input := rest }) ∧
  (∀ w : BitVec 16, ¬ Malformed (recordOf 0x2 0 w.toNat) ∧ ¬ Malformed (recordOf 0x5 0 w.toNat)) ∧
  (∀ v : Bool, ¬ Malformed (recordOf 0x1 0 v.toNat) ∧ ¬ Malformed (recordOf 0x4 0 v.toNat) ∧
    ¬ Malformed (recordOf 0x7 0 v.toNat)) ∧
  Malformed 0x00000000#32 ∧ Malformed 0x80000141#32 ∧ ¬ Malformed 0x80000041#32

/-- A step takes the next record and is exec of the instruction it decodes to. Rests on: 00_scope.md R5,
30_encoding.md R48, 92_eei_decisions.md D34, notes/assumptions/1.md. -/
def Obligations.StepRunsTheDecodedInstruction : Prop :=
  ∀ (s : State) (r : Record) (rest : List Record) (i : Instr), s.input = r :: rest → decodeRecord r = .ok i →
    step s = exec i { s with input := rest }

/-- An instruction placed by withFetchWord is the one the next step runs, in each of the three formats. Rests on:
42_display_decoder.md R59, 42_display_decoder.md R60, 44_frame_codec.md R83, notes/assumptions/6.md,
notes/assumptions/7.md. -/
def Obligations.PlacedInstructionIsRunNext : Prop :=
  ∀ (s : State) (nbits w : Nat) (i : Instr), decodeTableWord nbits w = some i →
    (nbits ≤ 8 → step (s.withFetchWord nbits w) = exec i s) ∧
    (8 < nbits → nbits ≤ 16 → step (s.withFetchWord nbits w) = exec i { s with c10 := BitVec.ofNat 15 w }) ∧
    (16 < nbits → step (s.withFetchWord nbits w) = exec i s)

/-- DISP_STROBE completes, runs the relay word in C10 with its fields, and leaves C10 as it was. Rests on:
42_display_decoder.md R59, 42_display_decoder.md R60. -/
def Obligations.DispStrobeRunsTheWordInC10 : Prop :=
  ∀ s : State, exec .dispStrobe s = exec (decodeWord s.c10) s ∧
    decodeWord s.c10 = relayInstr (s.c10.extractLsb' 11 4) (s.c10.getLsbD 10) (s.c10.extractLsb' 5 5) (s.c10.extractLsb' 0 5) ∧
    ∃ t, exec .dispStrobe s = .next t ∧ t.c10 = s.c10 ∧ t.c11 = s.c11 ∧ t.s11 = s.s11 ∧ t.fpos = s.fpos ∧
      t.fchan = s.fchan ∧ t.fdata = s.fdata ∧ t.conn = s.conn ∧ t.kout = s.kout ∧ t.refused = s.refused ∧
      t.refusals = s.refusals ∧ t.params = s.params ∧ t.input = s.input

/-- BYTE_IN completes and is exec of the frame byte its marker names. Rests on: 44_frame_codec.md R83, 30_encoding.md
R44. -/
def Obligations.ByteInRunsTheFrameByte : Prop :=
  ∀ (b : Byte) (s : State),
    (b.extractLsb' 6 2 = 0 → exec (.byteIn b) s = exec (.frameB0 (b.extractLsb' 4 2) (b.extractLsb' 0 4)) s) ∧
    (b.extractLsb' 6 2 = 1 → exec (.byteIn b) s = exec (.frameB1 (b.extractLsb' 3 3) (b.extractLsb' 0 3)) s) ∧
    (b.extractLsb' 6 2 = 2 → exec (.byteIn b) s = exec (.frameB2 (b.extractLsb' 0 6)) s) ∧
    (b.extractLsb' 6 2 = 3 → exec (.byteIn b) s = exec (.frameB3 (b.extractLsb' 0 6)) s) ∧
    ∃ t, exec (.byteIn b) s = .next t

/-- With no operation pending a step changes nothing. Rests on: 70_reset_and_hazards.md R120, notes/assumptions/2.md. -/
def Obligations.NothingHappensWithoutInput : Prop :=
  ∀ s : State, s.input = [] → step s = .next s

/-- No instruction ever stops the block: every exec, every step and every run answers a next state and consumes its
input. Rests on: 60_exceptions.md R103, 20_memory.md R31, 46_control_events.md R96, notes/assumptions/1.md,
notes/assumptions/2.md, notes/assumptions/8.md. -/
def Obligations.EveryRunCompletes : Prop :=
  (∀ (i : Instr) (s : State), ∃ t, exec i s = .next t) ∧
  (∀ (n : Nat) (s : State), ∃ t, run n s = .next t ∧ t.input = s.input.drop n)

/-- At power-on every element holds its power-on value and nothing has been emitted, and RESET then changes only OUT
and COND. Rests on: R113. -/
def Obligations.PowerOnHoldsTheTabledValues : Prop :=
  ∀ p : Params, let s := State.powerOn p
    s.c10 = 0 ∧ s.c11 = 0 ∧ s.s11 = 0 ∧
    (∀ r, rowGet s.plus r = false ∧ rowGet s.minus r = false ∧ rowGet s.sout r = .blank) ∧
    (∀ f, digitVal (cacheGet s.dcache f) = -1) ∧ (∀ b, lampGet s.l12 b = false) ∧
    s.fpos = .p0 ∧ s.fchan = 0 ∧ s.fdata = 0 ∧ s.conn = p.connAtPowerOn ∧ s.refused = false ∧ s.refusals = [] ∧
    (∀ role, roleGet s.out role = []) ∧ s.kout = [] ∧ s.cond = [] ∧ s.params = p ∧
    ∃ t, exec .reset s = .next t ∧ t = { s with out := t.out, cond := t.cond }

/-- State.reset is the power-on state under the default parameters of the spec and a command-code table within its
constraints. Rests on: 00_scope.md R7, 30_encoding.md R42, 30_encoding.md R43, 45_command_encoder.md R88,
notes/assumptions/4.md, notes/assumptions/5.md, notes/assumptions/11.md. -/
def Obligations.ResetParametersAreTheDefaults : Prop :=
  let p := State.reset.params
  State.reset = State.powerOn p ∧
  p.signFlagMode = .follow ∧ p.signPrecedence = .hold ∧ p.p3Mismatch = .yieldPair ∧ p.keyChannel = 13 ∧
  p.cmdTerminator = [] ∧ (∀ role, roleGet p.connAtPowerOn role = true) ∧
  lampGet p.lamp12Map .b3 = .vel ∧ lampGet p.lamp12Map .b4 = .noAtt ∧ lampGet p.lamp12Map .b5 = .alt ∧
  lampGet p.lamp12Map .b6 = .gimbalLock ∧ lampGet p.lamp12Map .b8 = .tracker ∧ lampGet p.lamp12Map .b9 = .prog ∧
  p.ch11Map.toList = [none, some .compActy, some (.lamp .uplinkActy), some (.lamp .temp), some (.lamp .keyRel),
    some (.lamp .vnFlash), some (.lamp .oprErr), none, none, none, none, none, none, none, none] ∧
  paramsOk p = true

/-- The invariants of R23 (a) to (e), and those on the parser, the refusal mark and the parameters, hold at power-on
and in State.reset. Rests on: 10_state.md R23, 70_reset_and_hazards.md R113. -/
def Obligations.InvariantHoldsAtPowerOn : Prop :=
  (∀ p : Params, paramsOk p = true → Inv (State.powerOn p)) ∧ Inv State.reset

/-- Every step keeps the invariants: net signs agree with flags, the parser accumulator fits its position, the refusal
mark agrees with the refusals. Rests on: 10_state.md R23, 42_display_decoder.md R63, 42_display_decoder.md R64,
44_frame_codec.md R83, 44_frame_codec.md R84, 46_control_events.md R96. -/
def Obligations.StepKeepsInvariant : Prop :=
  ∀ s t : State, Inv s → step s = .next t → Inv t

/-- A step only appends to the outputs, never clears the refusal mark, never changes a parameter, and takes at most
one record. Rests on: 10_state.md R21, 10_state.md R22, 46_control_events.md R96, notes/assumptions/1.md,
notes/assumptions/2.md. -/
def Obligations.OutputsOnlyGrowAndRefusalSticks : Prop :=
  ∀ s t : State, step s = .next t →
    (∀ role, roleGet s.out role <+: roleGet t.out role) ∧ s.kout <+: t.kout ∧ s.cond <+: t.cond ∧
    s.refusals <+: t.refusals ∧ (s.refused = true → t.refused = true) ∧ t.params = s.params ∧ t.input = s.input.tail

/-- No step reads the outputs: a step does to the rest, and appends, exactly what it does and appends from empty
outputs. Rests on: 10_state.md R21, 10_state.md R11. -/
def Obligations.OutputsAreNeverRead : Prop :=
  ∀ s t : State, step s = .next t → ∃ u, step (silent s) = .next u ∧ After s u t

/-- Every step keeps: each output holds only commands of its own role in the command format. Rests on: 30_encoding.md
R46, 30_encoding.md R47, 20_memory.md R29, 45_command_encoder.md R89, 45_command_encoder.md R92. -/
def Obligations.OutputsHoldOnlyCommandsOfTheirRole : Prop :=
  ∀ s t : State, OutputsWellFormed s → step s = .next t → OutputsWellFormed t

/-- Whatever control-line operations are interleaved, the frame parser ends as if only the socket records had been
applied. Rests on: 20_memory.md R31, 20_memory.md R34, 44_frame_codec.md R87, 70_reset_and_hazards.md R112,
notes/assumptions/1.md. -/
def Obligations.ParserSeesOnlySocketRecords : Prop :=
  ∀ s : State, ∃ t u : State, run s.input.length s = .next t ∧
    run (s.input.filter isSocket).length { s with input := s.input.filter isSocket } = .next u ∧
    t.fpos = u.fpos ∧ t.fchan = u.fchan ∧ t.fdata = u.fdata

/-- At positions 0 to 2 a byte with the expected marker fills its bits and advances; any other byte is dropped with no
effect. Rests on: 44_frame_codec.md R83, 30_encoding.md R44. -/
def Obligations.FrameBytesAreAcceptedAtTheirPosition : Prop :=
  (∀ (ign : BitVec 2) (chHi : BitVec 4) (s : State),
    (s.fpos = .p0 → ∃ t, exec (.frameB0 ign chHi) s = .next t ∧
      t = { s with fpos := .p1, fchan := t.fchan, fdata := t.fdata } ∧ t.fchan.toNat = 8 * chHi.toNat ∧ t.fdata.toNat = 0) ∧
    (s.fpos = .p1 ∨ s.fpos = .p2 → exec (.frameB0 ign chHi) s = .next s)) ∧
  (∀ (chLo dHi : BitVec 3) (s : State),
    (s.fpos = .p1 → ∃ t, exec (.frameB1 chLo dHi) s = .next t ∧
      t = { s with fpos := .p2, fchan := t.fchan, fdata := t.fdata } ∧
      (∀ j, t.fchan.getLsbD j = (s.fchan.getLsbD j || chLo.getLsbD j)) ∧ t.fdata.toNat = 4096 * dHi.toNat) ∧
    (s.fpos = .p0 ∨ s.fpos = .p2 → exec (.frameB1 chLo dHi) s = .next s)) ∧
  (∀ (dMid : BitVec 6) (s : State),
    (s.fpos = .p2 → ∃ t, exec (.frameB2 dMid) s = .next t ∧ t = { s with fpos := .p3, fdata := t.fdata } ∧
      (∀ j, t.fdata.getLsbD j = (s.fdata.getLsbD j || (decide (6 ≤ j) && dMid.getLsbD (j - 6))))) ∧
    (s.fpos = .p0 ∨ s.fpos = .p1 → exec (.frameB2 dMid) s = .next s)) ∧
  (∀ (dLo : BitVec 6) (s : State), s.fpos = .p0 ∨ s.fpos = .p1 ∨ s.fpos = .p2 → exec (.frameB3 dLo) s = .next s)

/-- At position 3 every byte ends the frame: a matching one merges data bits 5:0 and dispatches, another follows
P3_MISMATCH. Rests on: 44_frame_codec.md R84, 44_frame_codec.md R85, 44_frame_codec.md R86, 90_conflicts.md C3,
notes/assumptions/16.md. -/
def Obligations.ThePositionThreeByteEndsTheFrame : Prop :=
  (∀ (s : State) (dLo : BitVec 6), s.fpos = .p3 →
    Dispatched s.fchan (s.fdata ||| dLo.setWidth 15) (parserClear s) (exec (.frameB3 dLo) s)) ∧
  (∀ (s : State) (i : Instr), s.fpos = .p3 →
    ((∃ a b, i = .frameB0 a b) ∨ (∃ a b, i = .frameB1 a b) ∨ ∃ a, i = .frameB2 a) →
    (s.params.p3Mismatch = .yieldPair → Dispatched s.fchan s.fdata (parserClear s) (exec i s)) ∧
    (s.params.p3Mismatch = .dropFrame → exec i s = .next (parserClear s))) ∧
  (∀ (s : State) (i : Instr), s.fpos = .p3 →
    ((∃ a b, i = .frameB0 a b) ∨ (∃ a b, i = .frameB1 a b) ∨ (∃ a, i = .frameB2 a) ∨ ∃ a, i = .frameB3 a) →
    ∃ t, exec i s = .next t ∧ t.fpos = .p0 ∧ t.fchan = 0 ∧ t.fdata = 0) ∧
  (∀ p : Params, roleGet p.connAtPowerOn .display = true → ∃ t,
    run 4 { State.powerOn p with input := [0x80000001, 0x80000045, 0x800000AE, 0x8000003D] } = .next t ∧
    (p.p3Mismatch = .yieldPair → t.c10 = 0x5B80 ∧ t.out.display = [DIGIT p .md1 (.num 6), DIGIT p .md2 .blank]) ∧
    (p.p3Mismatch = .dropFrame → t = State.powerOn p))

/-- The four bytes of a frame deliver exactly its channel and data to the dispatcher, for every channel and every data
value. Rests on: 30_encoding.md R44, 44_frame_codec.md R83, 44_frame_codec.md R84, 44_frame_codec.md R85,
44_frame_codec.md R86, notes/assumptions/16.md. -/
def Obligations.FrameDeliversItsPair : Prop :=
  ∀ (ch : BitVec 7) (d : BitVec 15) (ign : BitVec 2) (s : State), s.fpos = .p0 →
    ∃ s1 s2 s3 : State,
      exec (.frameB0 ign (ch.extractLsb' 3 4)) s = .next s1 ∧
      exec (.frameB1 (ch.extractLsb' 0 3) (d.extractLsb' 12 3)) s1 = .next s2 ∧
      exec (.frameB2 (d.extractLsb' 6 6)) s2 = .next s3 ∧
      parserClear s1 = parserClear s ∧ parserClear s2 = parserClear s ∧ parserClear s3 = parserClear s ∧
      Dispatched ch d (parserClear s) (exec (.frameB3 (d.extractLsb' 0 6)) s3)

/-- If byte 3 of a frame is lost, byte 0 of the next ends it with data bits 5:0 zero and the next frame's other bytes
are dropped. Rests on: 70_reset_and_hazards.md R117, 44_frame_codec.md R83, 44_frame_codec.md R84,
44_frame_codec.md R85, 44_frame_codec.md R86, notes/assumptions/16.md. -/
def Obligations.LostLastByteCostsTwoFrames : Prop :=
  ∀ (ch : BitVec 7) (d : BitVec 15) (ign jgn : BitVec 2) (c0 : BitVec 4) (c1 d1 : BitVec 3) (d2 d3 : BitVec 6) (s : State),
    s.fpos = .p0 → ∃ s1 s2 s3 t : State,
      exec (.frameB0 ign (ch.extractLsb' 3 4)) s = .next s1 ∧
      exec (.frameB1 (ch.extractLsb' 0 3) (d.extractLsb' 12 3)) s1 = .next s2 ∧
      exec (.frameB2 (d.extractLsb' 6 6)) s2 = .next s3 ∧
      exec (.frameB0 jgn c0) s3 = .next t ∧
      (s.params.p3Mismatch = .yieldPair → Dispatched ch (d &&& 0x7FC0#15) (parserClear s) (.next t)) ∧
      (s.params.p3Mismatch = .dropFrame → t = parserClear s) ∧
      exec (.frameB1 c1 d1) t = .next t ∧ exec (.frameB2 d2) t = .next t ∧ exec (.frameB3 d3) t = .next t

/-- KEY_IN appends the four bytes of the frame on KEY_CHANNEL carrying the key code, and a 16-bit code is refused.
Rests on: R87, R45. -/
def Obligations.KeyInSendsTheKeyFrame : Prop :=
  (∀ k : BitVec 16, k.getLsbD 15 = false → decodeRecord (recordOf 0x9 0 k.toNat) = .ok (.keyIn k)) ∧
  (∀ (k : BitVec 16) (s : State), k.getLsbD 15 = false → ∃ b0 b1 b2 b3 : Byte,
    exec (.keyIn k) s = .next { s with kout := s.kout ++ [b0, b1, b2, b3] } ∧
    b0.toNat = s.params.keyChannel.toNat / 8 ∧
    b1.toNat = 0x40 + s.params.keyChannel.toNat % 8 * 8 + k.toNat / 4096 ∧
    b2.toNat = 0x80 + k.toNat / 64 % 64 ∧ b3.toNat = 0xC0 + k.toNat % 64) ∧
  (∀ (k : BitVec 16) (s : State), k.getLsbD 15 = true →
    exec (.keyIn k) s = .next { s with refused := true, refusals := s.refusals ++ [.malformedRecord] }) ∧
  (∀ s : State, s.params.keyChannel = 13 →
    exec (.keyIn 0x11) s = .next { s with kout := s.kout ++ [0x01, 0x68, 0x80, 0xD1] })

/-- CH10_SET_BIT and CH11_SET_BIT write the one register bit they name and nothing else; index 0 changes nothing.
Rests on: R26, R53, R55. -/
def Obligations.PerBitWriteChangesOneBit : Prop :=
  (∀ (i : BitVec 4) (v : Bool), decodeRecord (recordOf 0x1 i.toNat v.toNat) = .ok (.ch10SetBit i v) ∧
    decodeRecord (recordOf 0x4 i.toNat v.toNat) = .ok (.ch11SetBit i v)) ∧
  (∀ (v : Bool) (s : State), exec (.ch10SetBit 0 v) s = .next s ∧ exec (.ch11SetBit 0 v) s = .next s) ∧
  (∀ (i : BitVec 4) (v : Bool) (s : State), i ≠ 0 →
    (∃ w, exec (.ch10SetBit i v) s = .next { s with c10 := w } ∧
      ∀ k : RegBit, getBit w k = if k.val + 1 = i.toNat then v else getBit s.c10 k) ∧
    (∃ w, exec (.ch11SetBit i v) s = .next { s with c11 := w } ∧
      ∀ k : RegBit, getBit w k = if k.val + 1 = i.toNat then v else getBit s.c11 k)) ∧
  (∀ s : State, s.c10 = 0 → ∃ t, exec (.ch10SetBit 15 true) s = .next t ∧ t.c10 = 0x4000 ∧ t.c10.extractLsb' 11 4 = 8) ∧
  (∀ p : Params, p.ch11Map[1] = some .compActy → roleGet p.connAtPowerOn .display = true → ∃ t u,
    exec (.ch11SetBit 2 true) (State.powerOn p) = .next t ∧ exec .indcStrobe t = .next u ∧
    u.out.display = [ACTY p true] ∧ u.out.indicator = [])

/-- CH10_WRITE and CH11_WRITE put integer bit j in register bit j+1, ignore bit 15, and change nothing else. Rests on:
R27, R54, R56. -/
def Obligations.WholeWriteAlignsIntegerBits : Prop :=
  (∀ w : BitVec 16, decodeRecord (recordOf 0x2 0 w.toNat) = .ok (.ch10Write w) ∧
    decodeRecord (recordOf 0x5 0 w.toNat) = .ok (.ch11Write w)) ∧
  (∀ (w : BitVec 16) (s : State),
    (∃ c, exec (.ch10Write w) s = .next { s with c10 := c } ∧ (∀ j : Fin 15, getBit c j = w.getLsbD j.val) ∧
      c.extractLsb' 11 4 = w.extractLsb' 11 4 ∧ getBit c 10 = w.getLsbD 10 ∧
      c.extractLsb' 5 5 = w.extractLsb' 5 5 ∧ c.extractLsb' 0 5 = w.extractLsb' 0 5) ∧
    (∃ c, exec (.ch11Write w) s = .next { s with c11 := c } ∧ ∀ j : Fin 15, getBit c j = w.getLsbD j.val) ∧
    exec (.ch10Write (w ^^^ 0x8000#16)) s = exec (.ch10Write w) s ∧
    exec (.ch11Write (w ^^^ 0x8000#16)) s = exec (.ch11Write w) s) ∧
  (∀ s : State, ∃ t, exec (.ch10Write 0xDBBD) s = .next t ∧ t.c10 = 0x5BBD ∧
    decodeWord t.c10 = .rw11 false 29 29) ∧
  (∀ s : State, ∃ t, exec (.ch11Write 0x0002) s = .next t ∧ ∀ k : RegBit, getBit t.c11 k = decide (k.val + 1 = 2))

/-- SEG_DECODE gives the eleven digits of the table and INVALID for the other 21 patterns. Rests on: R57, R41. -/
def Obligations.SegmentMapperIsTheTable : Prop :=
  (∀ (p : BitVec 5) (d : Digit), segDecode p = some d ↔
    (p.toNat, digitVal d) ∈ ([(0, -1), (21, 0), (3, 1), (25, 2), (27, 3), (15, 4), (30, 5), (28, 6), (19, 7), (29, 8),
      (31, 9)] : List (Nat × Int))) ∧
  (∀ p : BitVec 5, segDecode p = none ↔
    p.toNat ∈ [1, 2, 4, 5, 6, 7, 8, 9, 10, 11, 12, 13, 14, 16, 17, 18, 20, 22, 23, 24, 26]) ∧
  (∀ (p q : BitVec 5) (d : Digit), segDecode p = some d → segDecode q = some d → p = q)

/-- Relay word 0 is a no-op: no output, no condition, no state change, whatever its other fields hold. Rests on: R66. -/
def Obligations.RelayWordZeroDoesNothing : Prop :=
  RelayWordRuns 0 .rw0 (fun _ _ _ s t => t = s) ∧
  (∀ s : State, s.input = [0x200003BD, 0x30000000] → run 2 s = .next { s with input := [], c10 := 0x03BD })

/-- Relay words 1, 4 and 6 update their two digit fields and then offer the sign bit to the minus flag of their row.
Rests on: R67, R70, R72. -/
def Obligations.MinusSignWordsUpdateFieldsThenSign : Prop :=
  RelayWordRuns 1 .rw1 (TwoFieldsAndSign .r3d4 .r3d5 .r3 .minus) ∧
  RelayWordRuns 4 .rw4 (TwoFieldsAndSign .r2d3 .r2d4 .r2 .minus) ∧
  RelayWordRuns 6 .rw6 (TwoFieldsAndSign .r1d4 .r1d5 .r1 .minus) ∧
  (∀ p : Params, roleGet p.connAtPowerOn .display = true →
    (∃ t, exec (decodeWord 0x0C79#15) (State.powerOn p) = .next t ∧
      t.out.display = [DIGIT p .r3d4 (.num 1), DIGIT p .r3d5 (.num 2), SIGN p .r3 .minus]) ∧
    (∃ t, exec (decodeWord 0x227D#15) (State.powerOn p) = .next t ∧
      t.out.display = [DIGIT p .r2d3 (.num 7), DIGIT p .r2d4 (.num 8)]) ∧
    (∃ t, exec (decodeWord 0x341E#15) (State.powerOn p) = .next t ∧
      t.out.display = [DIGIT p .r1d4 .blank, DIGIT p .r1d5 (.num 5), SIGN p .r1 .minus]))

/-- Relay words 2, 5 and 7 update their two digit fields and then offer the sign bit to the plus flag of their row.
Rests on: R68, R71, R73. -/
def Obligations.PlusSignWordsUpdateFieldsThenSign : Prop :=
  RelayWordRuns 2 .rw2 (TwoFieldsAndSign .r3d2 .r3d3 .r3 .plus) ∧
  RelayWordRuns 5 .rw5 (TwoFieldsAndSign .r2d1 .r2d2 .r2 .plus) ∧
  RelayWordRuns 7 .rw7 (TwoFieldsAndSign .r1d2 .r1d3 .r1 .plus) ∧
  (∀ p : Params, roleGet p.connAtPowerOn .display = true →
    (∃ t, exec (decodeWord 0x176F#15) (State.powerOn p) = .next t ∧
      t.out.display = [DIGIT p .r3d2 (.num 3), DIGIT p .r3d3 (.num 4), SIGN p .r3 .plus]) ∧
    (∃ t, exec (decodeWord 0x2FF5#15) (State.powerOn p) = .next t ∧
      t.out.display = [DIGIT p .r2d1 (.num 9), DIGIT p .r2d2 (.num 0), SIGN p .r2 .plus]) ∧
    (∃ t, exec (decodeWord 0x3FBB#15) (State.powerOn p) = .next t ∧
      t.out.display = [DIGIT p .r1d2 (.num 8), DIGIT p .r1d3 (.num 3), SIGN p .r1 .plus]))

/-- Relay words 3, 9, 10 and 11 update their two digit fields and never read the sign bit. Rests on: R69, R75, R76,
R77. -/
def Obligations.UnsignedWordsUpdateTheirTwoFields : Prop :=
  RelayWordRuns 3 .rw3 (TwoFields .r2d5 .r3d1) ∧ RelayWordRuns 9 .rw9 (TwoFields .nd1 .nd2) ∧
  RelayWordRuns 10 .rw10 (TwoFields .vd1 .vd2) ∧ RelayWordRuns 11 .rw11 (TwoFields .md1 .md2) ∧
  (∀ p : Params, roleGet p.connAtPowerOn .display = true →
    (∃ t, exec (decodeWord 0x1FDC#15) (State.powerOn p) = .next t ∧
      t.out.display = [DIGIT p .r2d5 (.num 5), DIGIT p .r3d1 (.num 6)]) ∧
    (∃ t, exec (decodeWord 0x487C#15) (State.powerOn p) = .next t ∧
      t.out.display = [DIGIT p .nd1 (.num 1), DIGIT p .nd2 (.num 6)]) ∧
    (∃ t, exec (decodeWord 0x483C#15) (State.powerOn p) = .next t ∧
      t.out.display = [DIGIT p .nd2 (.num 6)] ∧ t.cond = [.invalidPattern .nd1 1]) ∧
    (∃ t, exec (decodeWord 0x5373#15) (State.powerOn p) = .next t ∧
      t.out.display = [DIGIT p .vd1 (.num 3), DIGIT p .vd2 (.num 7)]) ∧
    (∃ t, exec (decodeWord 0x5BBD#15) (State.powerOn p) = .next t ∧
      t.out.display = [DIGIT p .md1 (.num 8), DIGIT p .md2 (.num 8)]))

/-- Relay word 8 updates R1D1 from the lower pattern; the upper pattern and the sign bit are not read. Rests on: R74. -/
def Obligations.RelayWordEightReadsOnlyTheLowerPattern : Prop :=
  RelayWordRuns 8 .rw8 (fun _ _ lo s t => DigitStep .r1d1 lo s t) ∧
  (∀ p : Params, roleGet p.connAtPowerOn .display = true → ∃ t,
    exec (decodeWord 0x47EF#15) (State.powerOn p) = .next t ∧ t.out.display = [DIGIT p .r1d1 (.num 4)] ∧
    t.out.indicator = [] ∧ t.cond = [])

/-- Relay word 12 sets the six lamps from register bits 3, 4, 5, 6, 8, 9 and emits one command per changed lamp in
ascending order. Rests on: R78, R65. -/
def Obligations.RelayWordTwelveDrivesTheLamps : Prop :=
  RelayWordRuns 12 .rw12 (fun _ up lo s t => LampsStep
    (fun | .b3 => lo.getLsbD 2 | .b4 => lo.getLsbD 3 | .b5 => lo.getLsbD 4
         | .b6 => up.getLsbD 0 | .b8 => up.getLsbD 2 | .b9 => up.getLsbD 3) s t) ∧
  (∀ (sb sb' : Bool) (up lo up' lo' : BitVec 5) (s t : State), exec (.rw12 sb up lo) s = .next t →
    up &&& 0b01101#5 = up' &&& 0b01101#5 → lo &&& 0b11100#5 = lo' &&& 0b11100#5 → exec (.rw12 sb' up' lo') t = .next t) ∧
  (∀ p : Params, roleGet p.connAtPowerOn .indicator = true → p.lamp12Map = defaultLamp12Map → ∃ t,
    exec (decodeWord 0x6104#15) (State.powerOn p) = .next t ∧ t.out.indicator = [LAMP p .vel true, LAMP p .prog true] ∧
    exec (decodeWord 0x6747#15) t = .next t)

/-- Relay words 13, 14 and 15 report INVALID_RELAY_WORD and do nothing else. Rests on: R79. -/
def Obligations.RelayWordsAboveTwelveAreInvalid : Prop :=
  RelayWordRuns 13 .rw13 (fun _ _ _ s t => t = { s with cond := s.cond ++ [.invalidRelayWord 13] }) ∧
  RelayWordRuns 14 .rw14 (fun _ _ _ s t => t = { s with cond := s.cond ++ [.invalidRelayWord 14] }) ∧
  RelayWordRuns 15 .rw15 (fun _ _ _ s t => t = { s with cond := s.cond ++ [.invalidRelayWord 15] }) ∧
  (∀ s : State, s.input = [0x20006863, 0x30000000] →
    run 2 s = .next { s with input := [], c10 := 0x6863, cond := s.cond ++ [.invalidRelayWord 13] })

/-- Frame of the 16 relay words: registers, tracker, parser, connections, KOUT, refusals, parameters, input and what
the word does not name stay. Rests on: 42_display_decoder.md R60, 42_display_decoder.md R61, 30_encoding.md R40. -/
def Obligations.RelayWordsChangeOnlyDisplayState : Prop :=
  ∀ (i : Instr) (s t : State), isRelayWord i = true → exec i s = .next t →
    t.c10 = s.c10 ∧ t.c11 = s.c11 ∧ t.s11 = s.s11 ∧ t.fpos = s.fpos ∧ t.fchan = s.fchan ∧ t.fdata = s.fdata ∧
    t.conn = s.conn ∧ t.kout = s.kout ∧ t.refused = s.refused ∧ t.refusals = s.refusals ∧ t.params = s.params ∧
    t.input = s.input ∧
    (∀ f, f ∉ fieldsOf i → cacheGet t.dcache f = cacheGet s.dcache f) ∧
    (∀ r, writesSign r i = false →
      rowGet t.plus r = rowGet s.plus r ∧ rowGet t.minus r = rowGet s.minus r ∧ rowGet t.sout r = rowGet s.sout r) ∧
    (writesL12 i = false → t.l12 = s.l12 ∧ t.out.indicator = s.out.indicator) ∧
    (fieldsOf i = [] → t.out.display = s.out.display)

/-- Whole-machine rule: an element changes only under the operations the state table names as its writers. Rests on:
10_state.md R11, 10_state.md R12, 10_state.md R13, 10_state.md R16, 10_state.md R18, 10_state.md R19, 10_state.md
R20, 10_state.md R22. -/
def Obligations.EachElementHasItsNamedWriters : Prop :=
  ∀ (i : Instr) (s t : State), exec i s = .next t →
    (t.c10 ≠ s.c10 → writesC10 i = true) ∧ (t.c11 ≠ s.c11 → writesC11 i = true) ∧
    (t.s11 ≠ s.s11 → writesS11 i = true) ∧ (t.l12 ≠ s.l12 → writesL12 i = true) ∧
    (∀ r, rowGet t.plus r ≠ rowGet s.plus r ∨ rowGet t.minus r ≠ rowGet s.minus r ∨ rowGet t.sout r ≠ rowGet s.sout r →
      writesSign r i = true) ∧
    (∀ f, cacheGet t.dcache f ≠ cacheGet s.dcache f → writesField f i = true) ∧
    (t.fpos ≠ s.fpos ∨ t.fchan ≠ s.fchan ∨ t.fdata ≠ s.fdata → isByte i = true) ∧
    (t.conn ≠ s.conn → ∃ role up, i = .transportStatus role up) ∧
    (t.kout ≠ s.kout → ∃ k, i = .keyIn k) ∧
    (t.refused ≠ s.refused ∨ t.refusals ≠ s.refusals → isRefused i = true) ∧
    t.params = s.params ∧ t.input = s.input

/-- Under SET_ONLY no operation but RESET clears a sign flag. Rests on: 42_display_decoder.md R63, 90_conflicts.md C1. -/
def Obligations.SetOnlyFlagsAreClearedByResetAlone : Prop :=
  ∀ (i : Instr) (s t : State), s.params.signFlagMode = .setOnly → i ≠ .reset → exec i s = .next t →
    ∀ r, (rowGet s.plus r = true → rowGet t.plus r = true) ∧ (rowGet s.minus r = true → rowGet t.minus r = true)

/-- Under FOLLOW a plus and a minus word of one row, in either order and not both with sign bit 1, set its flags to
their bits and its sign to match. Rests on: 42_display_decoder.md R63, 42_display_decoder.md R64, 10_state.md R23. -/
def Obligations.FollowWordsBlankTheSign : Prop :=
  ∀ (r : Row) (sp sm : Bool) (up lo up' lo' : BitVec 5) (s : State), s.params.signFlagMode = .follow → ¬(sp = true ∧ sm = true) →
    (∃ t u, exec (plusWord r sp up lo) s = .next t ∧ exec (minusWord r sm up' lo') t = .next u ∧
      rowGet u.plus r = sp ∧ rowGet u.minus r = sm ∧
      rowGet u.sout r = if sp then .plus else if sm then .minus else .blank) ∧
    (∃ t u, exec (minusWord r sm up' lo') s = .next t ∧ exec (plusWord r sp up lo) t = .next u ∧
      rowGet u.plus r = sp ∧ rowGet u.minus r = sm ∧
      rowGet u.sout r = if sp then .plus else if sm then .minus else .blank)

/-- One Channel-10 word reports at most two INVALID_PATTERN or one INVALID_RELAY_WORD, never both kinds, upper field
first. Rests on: 60_exceptions.md R104, 60_exceptions.md R101. -/
def Obligations.ConditionsOfOneWordAreLimited : Prop :=
  (∀ (i : Instr) (s t : State), isRelayWord i = true → exec i s = .next t → ∃ new : List Condition,
    t.cond = s.cond ++ new ∧
    (new.filter fun | .invalidPattern _ _ => true | _ => false).length ≤ 2 ∧
    (new.filter fun | .invalidRelayWord _ => true | _ => false).length ≤ 1 ∧
    ((∃ rw, .invalidRelayWord rw ∈ new) → ∀ f p, .invalidPattern f p ∉ new) ∧
    List.Sublist (new.filterMap fun | .invalidPattern f _ => some f | _ => none) (fieldsOf i)) ∧
  (∀ p : Params, ∃ t, exec (decodeWord 0x4822#15) (State.powerOn p) = .next t ∧
    t.cond = [.invalidPattern .nd1 1, .invalidPattern .nd2 2]) ∧
  (∀ p : Params, roleGet p.connAtPowerOn .display = false → ∃ t,
    exec (decodeWord 0x483C#15) (State.powerOn p) = .next t ∧
    t.cond = [.invalidPattern .nd1 1, .transportUnavailable .display])

/-- TRACKER_SET_BIT stores a changed bit and emits its mapped command; an unchanged bit, an unmapped bit or index 0
emits nothing. Rests on: R80, R81. -/
def Obligations.TrackerSetBitIsEdgeTriggered : Prop :=
  (∀ (i : BitVec 4) (v : Bool), decodeRecord (recordOf 0x7 i.toNat v.toNat) = .ok (.trackerSetBit i v)) ∧
  (∀ (v : Bool) (s : State), exec (.trackerSetBit 0 v) s = .next s) ∧
  (∀ (i : BitVec 4) (v : Bool) (s : State), i ≠ 0 → ∃ (k : RegBit) (t : State), k.val + 1 = i.toNat ∧
    exec (.trackerSetBit i v) s = .next t ∧ TrackStep k v s t) ∧
  (∀ p : Params, p.ch11Map = defaultCh11Map → (∀ role, roleGet p.connAtPowerOn role = true) → ∃ t u,
    exec (.trackerSetBit 2 true) (State.powerOn p) = .next t ∧ t.out.display = [ACTY p true] ∧ t.out.indicator = [] ∧
    exec (.trackerSetBit 2 true) t = .next t ∧
    exec (.trackerSetBit 7 true) t = .next u ∧ u.out.display = [ACTY p true] ∧ u.out.indicator = [LAMP p .oprErr true])

/-- INDC_STROBE makes S11 equal to C11 and emits one command per changed mapped bit in ascending bit order. Rests on:
R82. -/
def Obligations.IndcStrobePresentsEveryBit : Prop :=
  decodeRecord 0x60000000#32 = .ok .indcStrobe ∧
  (∀ s : State, ∃ t, exec .indcStrobe s = .next t ∧ StrobeStep s t) ∧
  (∀ s : State, s.c11 = s.s11 → exec .indcStrobe s = .next s) ∧
  (∀ p : Params, p.ch11Map = defaultCh11Map → (∀ role, roleGet p.connAtPowerOn role = true) → ∃ a b c d,
    exec (.ch11Write 0x0042) (State.powerOn p) = .next a ∧ exec .indcStrobe a = .next b ∧
    b.out.display = [ACTY p true] ∧ b.out.indicator = [LAMP p .oprErr true] ∧
    exec (.ch11Write 0x0040) b = .next c ∧ exec .indcStrobe c = .next d ∧
    d.out.display = [ACTY p true, ACTY p false] ∧ d.out.indicator = [LAMP p .oprErr true])

/-- Running INDC_STROBE, TRACKER_SET_BIT or a relay-word-12 word a second time changes nothing. Rests on: 20_memory.md
R32, 43_indicator_tracker.md R81, 43_indicator_tracker.md R82, 42_display_decoder.md R78. -/
def Obligations.RepeatedIndicatorUpdatesAreSilent : Prop :=
  ∀ (i : Instr) (s t : State), (i = .indcStrobe ∨ (∃ k v, i = .trackerSetBit k v) ∨ ∃ sb up lo, i = .rw12 sb up lo) →
    exec i s = .next t → exec i t = .next t

/-- Running a digit word again appends its digit commands and conditions again, no sign command, and changes nothing
else. Rests on: 42_display_decoder.md R59, 42_display_decoder.md R62, 42_display_decoder.md R63, 20_memory.md R32,
92_eei_decisions.md D6. -/
def Obligations.ValidDigitsAreEmittedEveryTime : Prop :=
  ∀ (i : Instr) (s t u : State), fieldsOf i ≠ [] → exec i s = .next t → exec i t = .next u →
    ∃ (cmds sgn : List Bytes) (conds sgnConds : List Condition),
      t.out.display = s.out.display ++ cmds ++ sgn ∧ t.cond = s.cond ++ conds ++ sgnConds ∧
      cmds.length + conds.length = (fieldsOf i).length ∧
      (∀ c ∈ cmds, ∃ f ∈ fieldsOf i, ∃ d, c = DIGIT s.params f d) ∧
      (∀ c ∈ conds, (∃ f ∈ fieldsOf i, ∃ p, c = .invalidPattern f p) ∨ c = .transportUnavailable .display) ∧
      sgn.length + sgnConds.length ≤ 1 ∧
      (∀ c ∈ sgn, ∃ r n, writesSign r i = true ∧ c = SIGN s.params r n) ∧
      (∀ c ∈ sgnConds, c = .transportUnavailable .display) ∧
      ((∀ r, writesSign r i = false) → sgn = [] ∧ sgnConds = []) ∧
      u = { t with out := { t.out with display := t.out.display ++ cmds }, cond := t.cond ++ conds }

/-- The five command encoders give number, space, value byte and terminator; a reset is the number alone. Rests on:
R89, R90, R91, R92, R93. -/
def Obligations.CommandsHaveTheirFormat : Prop :=
  (∀ (p : Params) (f : DigitField), encodeDigit p f .blank = codeOf p.cmdCodes (.digit f) ++ [0x20, 0x20] ++ p.cmdTerminator) ∧
  (∀ (p : Params) (f : DigitField) (n : Fin 10), ∃ v : Byte, v.toNat = 0x30 + n.val ∧
    encodeDigit p f (.num n) = codeOf p.cmdCodes (.digit f) ++ [0x20, v] ++ p.cmdTerminator) ∧
  (∀ (p : Params) (r : Row), encodeSign p r .blank = codeOf p.cmdCodes (.sign r) ++ [0x20, 0x30] ++ p.cmdTerminator ∧
    encodeSign p r .minus = codeOf p.cmdCodes (.sign r) ++ [0x20, 0x31] ++ p.cmdTerminator ∧
    encodeSign p r .plus = codeOf p.cmdCodes (.sign r) ++ [0x20, 0x32] ++ p.cmdTerminator) ∧
  (∀ (p : Params) (n : Lamp) (v : Bool),
    encodeLamp p n v = codeOf p.cmdCodes (.lamp n) ++ [0x20, if v then 0x31 else 0x30] ++ p.cmdTerminator) ∧
  (∀ (p : Params) (v : Bool),
    encodeActy p v = codeOf p.cmdCodes .acty ++ [0x20, if v then 0x31 else 0x30] ++ p.cmdTerminator) ∧
  (∀ (p : Params) (role : Role), encodeReset p role = codeOf p.cmdCodes (.reset role) ++ p.cmdTerminator) ∧
  (∀ p : Params, p = defaultParams (codesFrom fixtureCode) →
    encodeDigit p .r1d5 (.num 5) = [0x31, 0x31, 0x20, 0x35] ∧ encodeDigit p .r1d5 .blank = [0x31, 0x31, 0x20, 0x20] ∧
    encodeSign p .r1 .plus = [0x32, 0x32, 0x20, 0x32] ∧ encodeLamp p .vel true = [0x31, 0x20, 0x31] ∧
    encodeActy p true = [0x32, 0x35, 0x20, 0x31] ∧ encodeReset p .display = [0x30])

/-- Under the constraints on CMD_CODE, two value commands of one role with the same bytes carry the same name and
value, and none is a reset. Rests on: 45_command_encoder.md R88, 30_encoding.md R46. -/
def Obligations.CommandsOfARoleAreDistinguishable : Prop :=
  ∀ p : Params, paramsOk p = true → ∀ a ∈ cmdNames p, codeOf p.cmdCodes a ≠ [] ∧
    (∀ b ∈ cmdNames p, cmdRole a = cmdRole b → ∀ v w : Byte, valueCommand p a v = valueCommand p b w → a = b ∧ v = w) ∧
    ∀ v : Byte, valueCommand p a v ≠ encodeReset p (cmdRole a)

/-- TRANSPORT_STATUS sets the role's connection flag and replays nothing; while it is 0 the role's commands are
dropped with a condition. Rests on: R95, R94. -/
def Obligations.TransportStatusSetsTheFlag : Prop :=
  (∀ (role : BitVec 4) (up : Bool), role.toNat ≤ 1 →
    decodeRecord (recordOf 0xB role.toNat up.toNat) = .ok (.transportStatus role up)) ∧
  (∀ (up : Bool) (s : State), ∃ t u, exec (.transportStatus 0 up) s = .next t ∧ exec (.transportStatus 1 up) s = .next u ∧
    t = { s with conn := t.conn } ∧ u = { s with conn := u.conn } ∧
    (∀ r, roleGet t.conn r = if r = .display then up else roleGet s.conn r) ∧
    (∀ r, roleGet u.conn r = if r = .indicator then up else roleGet s.conn r)) ∧
  (∀ (role : BitVec 4) (up : Bool) (s : State), 2 ≤ role.toNat →
    exec (.transportStatus role up) s = .next { s with refused := true, refusals := s.refusals ++ [.malformedRecord] }) ∧
  (∀ (role : Role) (cmd : Bytes) (s : State), Emits role cmd s (emit role cmd s)) ∧
  (∀ p : Params, ∃ t, run 3 { State.powerOn p with input := [0xB0010000, 0x20006104, 0x30000000] } = .next t ∧
    t.cond = [.transportUnavailable .indicator, .transportUnavailable .indicator] ∧ t.out.indicator = [] ∧
    lampGet t.l12 .b3 = true ∧ lampGet t.l12 .b9 = true)

/-- RESET clears C10, C11, signs, cache, lamps and S11, emits both reset commands in order, and leaves parser, conn,
refusals and outputs. Rests on: R112. -/
def Obligations.ResetClearsDecoderAndTracker : Prop :=
  decodeRecord 0xA0000000#32 = .ok .reset ∧
  (∀ s : State, ∃ t, exec .reset s = .next t ∧ t.c10 = 0 ∧ t.c11 = 0 ∧ t.s11 = 0 ∧
    (∀ r, rowGet t.plus r = false ∧ rowGet t.minus r = false ∧ rowGet t.sout r = .blank) ∧
    (∀ f, digitVal (cacheGet t.dcache f) = -1) ∧ (∀ b, lampGet t.l12 b = false) ∧
    EmitsAll [(.display, RESETCMD s.params .display), (.indicator, RESETCMD s.params .indicator)] s t ∧
    t.fpos = s.fpos ∧ t.fchan = s.fchan ∧ t.fdata = s.fdata ∧ t.conn = s.conn ∧ t.refused = s.refused ∧
    t.refusals = s.refusals ∧ t.kout = s.kout ∧ t.params = s.params ∧ t.input = s.input) ∧
  (∀ (i : Instr) (s t u v : State), isRelayWord i = true → exec .reset s = .next t → exec i t = .next u →
    exec i { State.powerOn s.params with conn := s.conn } = .next v →
    (∀ role, roleGet u.out role = roleGet t.out role ++ roleGet v.out role) ∧ u.cond = t.cond ++ v.cond)

/-- After RESET the block is a power-on block with the same connections, but for the parser, the outputs, the refusals
and the pending input. Rests on: 70_reset_and_hazards.md R112, 70_reset_and_hazards.md R113, 95_test_vectors.md
W7. -/
def Obligations.ResetMakesTheBlockFresh : Prop :=
  ∀ s : State, ∃ t, exec .reset s = .next t ∧
    t = { State.powerOn s.params with
      conn := s.conn, fpos := s.fpos, fchan := s.fchan, fdata := s.fdata, out := t.out, kout := s.kout, cond := t.cond,
      refused := s.refused, refusals := s.refusals, input := s.input }

/-- STANDBY, KEYBOARD_STROBE and PROCEED set the sticky refusal mark, record their own reason, and do nothing else.
Rests on: R96, R97, R98, R99. -/
def Obligations.UndescribedEventsAreRefused : Prop :=
  (∀ s : State,
    exec .standby s = .next { s with refused := true, refusals := s.refusals ++ [.standbyNotDescribed] } ∧
    exec .keyboardStrobe s = .next { s with refused := true, refusals := s.refusals ++ [.keyboardStrobeNotDescribed] } ∧
    exec .proceed s = .next { s with refused := true, refusals := s.refusals ++ [.proceedNotDescribed] }) ∧
  decodeRecord 0xC0000000#32 = .ok .standby ∧ decodeRecord 0xD0000000#32 = .ok .keyboardStrobe ∧
  decodeRecord 0xE0000000#32 = .ok .proceed ∧
  (∀ (i : Instr) (s t : State), exec i s = .next t → s.refused = true → t.refused = true)

/-- The BYTE_IN that completes a frame acts on channels 8, 9 and 115 and drops every other, a frame on KEY_CHANNEL
included. Rests on: R85, R86. -/
def Obligations.DescribedChannelsAreActedOnAndOthersDropped : Prop :=
  (∀ (b : Byte) (s : State), KeyChannelApart s.params → s.fpos = .p3 → b.extractLsb' 6 2 = 3 →
    Dispatched s.fchan (s.fdata ||| (b.extractLsb' 0 6).setWidth 15) (parserClear s) (exec (.byteIn b) s) ∧
    (s.fchan = s.params.keyChannel → exec (.byteIn b) s = .next (parserClear s))) ∧
  (∀ p : Params, KeyChannelApart p → roleGet p.connAtPowerOn .indicator = true → p.lamp12Map = defaultLamp12Map → ∃ t u,
    run 4 { State.powerOn p with input := [0x8000000E, 0x80000058, 0x80000084, 0x800000C4] } = .next t ∧
    t.out.indicator = [LAMP p .vel true, LAMP p .prog true] ∧ t.c10 = 0 ∧
    run 2 { t with input := [0x20006104, 0x30000000] } = .next u ∧ u = { t with c10 := 0x6104 })

/-- R23 (f), for lamps commanded from one place, holds at power-on under any parameters, and in State.reset. Rests on:
10_state.md R23, 70_reset_and_hazards.md R113, notes/assumptions/4.md, notes/assumptions/17.md. -/
def Obligations.CommandsAgreeAtPowerOn : Prop :=
  (∀ p : Params, CommandsAgree (State.powerOn p)) ∧ CommandsAgree State.reset

/-- While both roles are connected every step keeps R23 (f): lamps commanded from one place hold their last commanded
value since the last reset. Rests on: 10_state.md R23, 42_display_decoder.md R65, 43_indicator_tracker.md R80,
45_command_encoder.md R94, 70_reset_and_hazards.md R112, notes/assumptions/17.md. -/
def Obligations.StepKeepsCommandsAgreeing : Prop :=
  ∀ s t : State, paramsOk s.params = true → (∀ role, roleGet s.conn role = true) → CommandsAgree s → step s = .next t →
    CommandsAgree t

/-- The connection flags steer only whether a command goes out or is reported: a step from other flags does the same
to every other element. Rests on: 45_command_encoder.md R94, 10_state.md R20, 70_reset_and_hazards.md R118. -/
def Obligations.StateDoesNotDependOnConnections : Prop :=
  ∀ (s t : State) (c : PerRole Bool) (o : PerRole (List Bytes)) (d : List Condition), step s = .next t → ∃ u,
    step { s with conn := c, out := o, cond := d } = .next u ∧ u = { t with conn := u.conn, out := u.out, cond := u.cond }

/-- A record of tag 0 or F sets the sticky refusal mark, records MALFORMED_RECORD, and does nothing else. Rests on:
46_control_events.md R100, 46_control_events.md R96, 30_encoding.md R49, notes/assumptions/9.md. -/
def Obligations.UnassignedTagsAreRefused : Prop :=
  ∀ (rest : BitVec 28) (s : State),
    decodeRecord (0x0#4 ++ rest) = .ok (.unassigned0 rest) ∧ decodeRecord (0xF#4 ++ rest) = .ok (.unassignedF rest) ∧
    exec (.unassigned0 rest) s = .next { s with refused := true, refusals := s.refusals ++ [.malformedRecord] } ∧
    exec (.unassignedF rest) s = .next { s with refused := true, refusals := s.refusals ++ [.malformedRecord] }
end

