-- ==== Sys2Proof/Laws/Bits.lean ====
section
/-! SUPPORT. Register bits: read after write, whole-value writes, index 0, and equality of words by their bits. -/

namespace Sys2Proof.Machine

/-- Two register words with the same bits 1..15 are equal. -/
theorem chanWord_ext {a b : ChanWord} (h : ∀ k, getBit a k = getBit b k) : a = b := by
  apply BitVec.eq_of_getLsbD_eq
  intro i hi
  exact h ⟨i, hi⟩

theorem getBit_zero (k : RegBit) : getBit 0 k = false := by simp [getBit]

theorem getBit_setBit (c : ChanWord) (k j : RegBit) (v : Bool) :
    getBit (setBit c k v) j = if j = k then v else getBit c j := by
  have hj := j.isLt
  by_cases h : j = k
  · subst h
    cases v <;> simp [getBit, setBit]
  · have hne : j.val ≠ k.val := fun e => h (Fin.ext e)
    have : ¬ (¬ j.val < k.val ∧ j.val - k.val = 0) := by omega
    cases v <;> simp [getBit, setBit, h] <;> omega

theorem setBit_getBit_self (c : ChanWord) (k : RegBit) : setBit c k (getBit c k) = c :=
  chanWord_ext fun j => by rw [getBit_setBit]; split <;> simp_all

theorem regBitOf_zero : regBitOf 0 = none := rfl

theorem regBitOf_succ (k : RegBit) : regBitOf (BitVec.ofNat 4 (k.val + 1)) = some k := by revert k; decide

theorem regBitOf_eq_none {i : BitVec 4} : regBitOf i = none ↔ i = 0 := by revert i; decide

theorem regBitOf_eq_some {i : BitVec 4} {k : RegBit} : regBitOf i = some k ↔ i.toNat = k.val + 1 := by
  revert i k; decide

theorem getBit_assignWhole (w : BitVec 16) (k : RegBit) : getBit (assignWhole w) k = w.getLsbD k.val := by
  simp [getBit, assignWhole]

end Sys2Proof.Machine

namespace Sys2Proof

open BitVec

/-! ## Packing and unpacking -/

theorem wordRw_packWord (rw : BitVec 4) (sb : Bool) (up lo : BitVec 5) : wordRw (packWord rw sb up lo) = rw :=
  (extractLsb'_append_eq_of_le (w := 5) (start := 11) (by omega)).trans
    ((extractLsb'_append_eq_of_le (w := 5) (start := 6) (by omega)).trans
      (extractLsb'_append_eq_left (w' := 1) (a := rw)))

theorem wordUp_packWord (rw : BitVec 4) (sb : Bool) (up lo : BitVec 5) : wordUp (packWord rw sb up lo) = up :=
  (extractLsb'_append_eq_of_le (w := 5) (start := 5) (by omega)).trans (extractLsb'_append_eq_right (b := up))

theorem wordLo_packWord (rw : BitVec 4) (sb : Bool) (up lo : BitVec 5) : wordLo (packWord rw sb up lo) = lo :=
  extractLsb'_append_eq_right (b := lo)

theorem wordSb_packWord (rw : BitVec 4) (sb : Bool) (up lo : BitVec 5) : wordSb (packWord rw sb up lo) = sb := by
  have h1 : (packWord rw sb up lo).getLsbD 10 = (rw ++ BitVec.ofBool sb ++ up).getLsbD 5 := getLsbD_append (m := 5)
  have h2 : (rw ++ BitVec.ofBool sb ++ up).getLsbD 5 = (rw ++ BitVec.ofBool sb).getLsbD 0 := getLsbD_append (m := 5)
  have h3 : (rw ++ BitVec.ofBool sb).getLsbD 0 = (BitVec.ofBool sb).getLsbD 0 := getLsbD_append (m := 1)
  exact h1.trans (h2.trans (h3.trans (by cases sb <;> rfl)))

theorem recTag_packRecord (tag : BitVec 4) (rsv : BitVec 8) (idx : BitVec 4) (arg : BitVec 16) :
    recTag (packRecord tag rsv idx arg) = tag :=
  (extractLsb'_append_eq_of_le (w := 16) (start := 28) (by omega)).trans
    ((extractLsb'_append_eq_of_le (w := 4) (start := 12) (by omega)).trans
      (extractLsb'_append_eq_left (w' := 8) (a := tag)))

theorem recRsv_packRecord (tag : BitVec 4) (rsv : BitVec 8) (idx : BitVec 4) (arg : BitVec 16) :
    recRsv (packRecord tag rsv idx arg) = rsv :=
  (extractLsb'_append_eq_of_le (w := 16) (start := 20) (by omega)).trans
    ((extractLsb'_append_eq_of_le (w := 4) (start := 4) (by omega)).trans
      (extractLsb'_append_eq_right (b := rsv)))

theorem recIdx_packRecord (tag : BitVec 4) (rsv : BitVec 8) (idx : BitVec 4) (arg : BitVec 16) :
    recIdx (packRecord tag rsv idx arg) = idx :=
  (extractLsb'_append_eq_of_le (w := 16) (start := 16) (by omega)).trans (extractLsb'_append_eq_right (b := idx))

theorem recArg_packRecord (tag : BitVec 4) (rsv : BitVec 8) (idx : BitVec 4) (arg : BitVec 16) :
    recArg (packRecord tag rsv idx arg) = arg :=
  extractLsb'_append_eq_right (b := arg)

theorem recTag_tagged (tag : BitVec 4) (rest : BitVec 28) : recTag (tag ++ rest : BitVec 32) = tag :=
  extractLsb'_append_eq_left (w' := 28) (a := tag)

theorem recRest_tagged (tag : BitVec 4) (rest : BitVec 28) : recRest (tag ++ rest : BitVec 32) = rest :=
  extractLsb'_append_eq_right (b := rest)

theorem packWord_fields (w : ChanWord) : packWord (wordRw w) (wordSb w) (wordUp w) (wordLo w) = w := by
  have hs : BitVec.ofBool (wordSb w) = w.extractLsb' 10 1 := by
    unfold wordSb
    apply BitVec.eq_of_getLsbD_eq
    intro i hi
    obtain rfl : i = 0 := by omega
    cases h : w.getLsbD 10 <;> simp_all
  unfold packWord
  rw [hs]
  have h1 : wordRw w ++ w.extractLsb' 10 1 = w.extractLsb' 10 5 :=
    extractLsb'_append_extractLsb'_eq_extractLsb' (start₁ := 10) (len₁ := 1) (by omega)
  have h2 : w.extractLsb' 10 5 ++ wordUp w = w.extractLsb' 5 10 :=
    extractLsb'_append_extractLsb'_eq_extractLsb' (start₁ := 5) (len₁ := 5) (by omega)
  have h3 : w.extractLsb' 5 10 ++ wordLo w = w.extractLsb' 0 15 :=
    extractLsb'_append_extractLsb'_eq_extractLsb' (start₁ := 0) (len₁ := 5) (by omega)
  rw [h1]
  refine (congrArg (fun x : BitVec 10 => (x ++ wordLo w : BitVec 15)) h2).trans (h3.trans ?_)
  exact extractLsb'_eq_self

theorem packRecord_fields (r : Record) : packRecord (recTag r) (recRsv r) (recIdx r) (recArg r) = r := by
  have h1 : recTag r ++ recRsv r = r.extractLsb' 20 12 :=
    extractLsb'_append_extractLsb'_eq_extractLsb' (start₁ := 20) (len₁ := 8) (by omega)
  have h2 : r.extractLsb' 20 12 ++ recIdx r = r.extractLsb' 16 16 :=
    extractLsb'_append_extractLsb'_eq_extractLsb' (start₁ := 16) (len₁ := 4) (by omega)
  have h3 : r.extractLsb' 16 16 ++ recArg r = r.extractLsb' 0 32 :=
    extractLsb'_append_extractLsb'_eq_extractLsb' (start₁ := 0) (len₁ := 16) (by omega)
  unfold packRecord
  rw [h1]
  refine (congrArg (fun x : BitVec 16 => (x ++ recArg r : BitVec 32)) h2).trans (h3.trans ?_)
  exact extractLsb'_eq_self

theorem tagged_fields (r : Record) : (recTag r ++ recRest r : BitVec 32) = r :=
  (extractLsb'_append_extractLsb'_eq_extractLsb' (start₁ := 0) (len₁ := 28) (by omega)).trans extractLsb'_eq_self

end Sys2Proof
end

