-- ==== Sys2Proof/Laws/State.lean ====
section
/-! SUPPORT. One lemma per field per named update of the state, and read-after-write of the per-row, per-role,
per-lamp and per-field accessors. -/

namespace Sys2Proof.Machine

/-! ## Accessors -/

section Accessors
variable {α : Type}

@[simp] theorem rowGet_rowSet (v : PerRow α) (r q : Row) (x : α) :
    rowGet (rowSet v r x) q = if q = r then x else rowGet v q := by cases r <;> cases q <;> rfl

@[simp] theorem rowSet_rowGet_self (v : PerRow α) (r : Row) : rowSet v r (rowGet v r) = v := by cases r <;> rfl

@[simp] theorem roleGet_roleSet (v : PerRole α) (r q : Role) (x : α) :
    roleGet (roleSet v r x) q = if q = r then x else roleGet v q := by cases r <;> cases q <;> rfl

@[simp] theorem lampGet_lampSet (v : PerLamp α) (b q : LampBit) (x : α) :
    lampGet (lampSet v b x) q = if q = b then x else lampGet v q := by cases b <;> cases q <;> rfl

theorem perRole_ext {u v : PerRole α} (h : ∀ r, roleGet u r = roleGet v r) : u = v := by
  have h1 := h .display
  have h2 := h .indicator
  cases u; cases v; simp_all [roleGet]

theorem perLamp_ext {u v : PerLamp α} (h : ∀ b, lampGet u b = lampGet v b) : u = v := by
  have h1 := h .b3
  have h2 := h .b4
  have h3 := h .b5
  have h4 := h .b6
  have h5 := h .b8
  have h6 := h .b9
  cases u; cases v; simp_all [lampGet]

end Accessors

theorem fieldIdx_injective {f g : DigitField} (h : fieldIdx f = fieldIdx g) : f = g := by
  cases f <;> cases g <;> first | rfl | exact absurd h (by decide)

@[simp] theorem cacheGet_cacheSet (cache : Vector Digit 21) (f g : DigitField) (d : Digit) :
    cacheGet (cacheSet cache f d) g = if g = f then d else cacheGet cache g := by
  unfold cacheGet cacheSet
  by_cases h : g = f
  · simp [h]
  · have hne : (fieldIdx f).val ≠ (fieldIdx g).val := fun e => h (fieldIdx_injective (Fin.ext e)).symm
    simp [h, hne]

/-! ## Named updates -/

@[simp] theorem report_c10 (c : Condition) (s : State) : (report c s).c10 = s.c10 := rfl
@[simp] theorem report_c11 (c : Condition) (s : State) : (report c s).c11 = s.c11 := rfl
@[simp] theorem report_plus (c : Condition) (s : State) : (report c s).plus = s.plus := rfl
@[simp] theorem report_minus (c : Condition) (s : State) : (report c s).minus = s.minus := rfl
@[simp] theorem report_sout (c : Condition) (s : State) : (report c s).sout = s.sout := rfl
@[simp] theorem report_dcache (c : Condition) (s : State) : (report c s).dcache = s.dcache := rfl
@[simp] theorem report_s11 (c : Condition) (s : State) : (report c s).s11 = s.s11 := rfl
@[simp] theorem report_l12 (c : Condition) (s : State) : (report c s).l12 = s.l12 := rfl
@[simp] theorem report_fpos (c : Condition) (s : State) : (report c s).fpos = s.fpos := rfl
@[simp] theorem report_fchan (c : Condition) (s : State) : (report c s).fchan = s.fchan := rfl
@[simp] theorem report_fdata (c : Condition) (s : State) : (report c s).fdata = s.fdata := rfl
@[simp] theorem report_conn (c : Condition) (s : State) : (report c s).conn = s.conn := rfl
@[simp] theorem report_refused (c : Condition) (s : State) : (report c s).refused = s.refused := rfl
@[simp] theorem report_refusals (c : Condition) (s : State) : (report c s).refusals = s.refusals := rfl
@[simp] theorem report_out (c : Condition) (s : State) : (report c s).out = s.out := rfl
@[simp] theorem report_kout (c : Condition) (s : State) : (report c s).kout = s.kout := rfl
@[simp] theorem report_cond (c : Condition) (s : State) : (report c s).cond = s.cond ++ [c] := rfl
@[simp] theorem report_params (c : Condition) (s : State) : (report c s).params = s.params := rfl
@[simp] theorem report_input (c : Condition) (s : State) : (report c s).input = s.input := rfl

@[simp] theorem refuse_c10 (r : RefusalReason) (s : State) : (refuse r s).c10 = s.c10 := rfl
@[simp] theorem refuse_c11 (r : RefusalReason) (s : State) : (refuse r s).c11 = s.c11 := rfl
@[simp] theorem refuse_plus (r : RefusalReason) (s : State) : (refuse r s).plus = s.plus := rfl
@[simp] theorem refuse_minus (r : RefusalReason) (s : State) : (refuse r s).minus = s.minus := rfl
@[simp] theorem refuse_sout (r : RefusalReason) (s : State) : (refuse r s).sout = s.sout := rfl
@[simp] theorem refuse_dcache (r : RefusalReason) (s : State) : (refuse r s).dcache = s.dcache := rfl
@[simp] theorem refuse_s11 (r : RefusalReason) (s : State) : (refuse r s).s11 = s.s11 := rfl
@[simp] theorem refuse_l12 (r : RefusalReason) (s : State) : (refuse r s).l12 = s.l12 := rfl
@[simp] theorem refuse_fpos (r : RefusalReason) (s : State) : (refuse r s).fpos = s.fpos := rfl
@[simp] theorem refuse_fchan (r : RefusalReason) (s : State) : (refuse r s).fchan = s.fchan := rfl
@[simp] theorem refuse_fdata (r : RefusalReason) (s : State) : (refuse r s).fdata = s.fdata := rfl
@[simp] theorem refuse_conn (r : RefusalReason) (s : State) : (refuse r s).conn = s.conn := rfl
@[simp] theorem refuse_refused (r : RefusalReason) (s : State) : (refuse r s).refused = true := rfl
@[simp] theorem refuse_refusals (r : RefusalReason) (s : State) : (refuse r s).refusals = s.refusals ++ [r] := rfl
@[simp] theorem refuse_out (r : RefusalReason) (s : State) : (refuse r s).out = s.out := rfl
@[simp] theorem refuse_kout (r : RefusalReason) (s : State) : (refuse r s).kout = s.kout := rfl
@[simp] theorem refuse_cond (r : RefusalReason) (s : State) : (refuse r s).cond = s.cond := rfl
@[simp] theorem refuse_params (r : RefusalReason) (s : State) : (refuse r s).params = s.params := rfl
@[simp] theorem refuse_input (r : RefusalReason) (s : State) : (refuse r s).input = s.input := rfl

@[simp] theorem refuseMalformed_c10 (e : DecodeError) (s : State) : (refuseMalformed e s).c10 = s.c10 := rfl
@[simp] theorem refuseMalformed_c11 (e : DecodeError) (s : State) : (refuseMalformed e s).c11 = s.c11 := rfl
@[simp] theorem refuseMalformed_plus (e : DecodeError) (s : State) : (refuseMalformed e s).plus = s.plus := rfl
@[simp] theorem refuseMalformed_minus (e : DecodeError) (s : State) : (refuseMalformed e s).minus = s.minus := rfl
@[simp] theorem refuseMalformed_sout (e : DecodeError) (s : State) : (refuseMalformed e s).sout = s.sout := rfl
@[simp] theorem refuseMalformed_dcache (e : DecodeError) (s : State) : (refuseMalformed e s).dcache = s.dcache := rfl
@[simp] theorem refuseMalformed_s11 (e : DecodeError) (s : State) : (refuseMalformed e s).s11 = s.s11 := rfl
@[simp] theorem refuseMalformed_l12 (e : DecodeError) (s : State) : (refuseMalformed e s).l12 = s.l12 := rfl
@[simp] theorem refuseMalformed_fpos (e : DecodeError) (s : State) : (refuseMalformed e s).fpos = s.fpos := rfl
@[simp] theorem refuseMalformed_fchan (e : DecodeError) (s : State) : (refuseMalformed e s).fchan = s.fchan := rfl
@[simp] theorem refuseMalformed_fdata (e : DecodeError) (s : State) : (refuseMalformed e s).fdata = s.fdata := rfl
@[simp] theorem refuseMalformed_conn (e : DecodeError) (s : State) : (refuseMalformed e s).conn = s.conn := rfl
@[simp] theorem refuseMalformed_refused (e : DecodeError) (s : State) : (refuseMalformed e s).refused = true := rfl
@[simp] theorem refuseMalformed_refusals (e : DecodeError) (s : State) : (refuseMalformed e s).refusals = s.refusals ++ [.malformedRecord] := rfl
@[simp] theorem refuseMalformed_out (e : DecodeError) (s : State) : (refuseMalformed e s).out = s.out := rfl
@[simp] theorem refuseMalformed_kout (e : DecodeError) (s : State) : (refuseMalformed e s).kout = s.kout := rfl
@[simp] theorem refuseMalformed_cond (e : DecodeError) (s : State) : (refuseMalformed e s).cond = s.cond := rfl
@[simp] theorem refuseMalformed_params (e : DecodeError) (s : State) : (refuseMalformed e s).params = s.params := rfl
@[simp] theorem refuseMalformed_input (e : DecodeError) (s : State) : (refuseMalformed e s).input = s.input := rfl

@[simp] theorem send_c10 (bs : Bytes) (s : State) : (send bs s).c10 = s.c10 := rfl
@[simp] theorem send_c11 (bs : Bytes) (s : State) : (send bs s).c11 = s.c11 := rfl
@[simp] theorem send_plus (bs : Bytes) (s : State) : (send bs s).plus = s.plus := rfl
@[simp] theorem send_minus (bs : Bytes) (s : State) : (send bs s).minus = s.minus := rfl
@[simp] theorem send_sout (bs : Bytes) (s : State) : (send bs s).sout = s.sout := rfl
@[simp] theorem send_dcache (bs : Bytes) (s : State) : (send bs s).dcache = s.dcache := rfl
@[simp] theorem send_s11 (bs : Bytes) (s : State) : (send bs s).s11 = s.s11 := rfl
@[simp] theorem send_l12 (bs : Bytes) (s : State) : (send bs s).l12 = s.l12 := rfl
@[simp] theorem send_fpos (bs : Bytes) (s : State) : (send bs s).fpos = s.fpos := rfl
@[simp] theorem send_fchan (bs : Bytes) (s : State) : (send bs s).fchan = s.fchan := rfl
@[simp] theorem send_fdata (bs : Bytes) (s : State) : (send bs s).fdata = s.fdata := rfl
@[simp] theorem send_conn (bs : Bytes) (s : State) : (send bs s).conn = s.conn := rfl
@[simp] theorem send_refused (bs : Bytes) (s : State) : (send bs s).refused = s.refused := rfl
@[simp] theorem send_refusals (bs : Bytes) (s : State) : (send bs s).refusals = s.refusals := rfl
@[simp] theorem send_out (bs : Bytes) (s : State) : (send bs s).out = s.out := rfl
@[simp] theorem send_kout (bs : Bytes) (s : State) : (send bs s).kout = s.kout ++ bs := rfl
@[simp] theorem send_cond (bs : Bytes) (s : State) : (send bs s).cond = s.cond := rfl
@[simp] theorem send_params (bs : Bytes) (s : State) : (send bs s).params = s.params := rfl
@[simp] theorem send_input (bs : Bytes) (s : State) : (send bs s).input = s.input := rfl

@[simp] theorem deliver_c10 (r : Record) (s : State) : (deliver r s).c10 = s.c10 := rfl
@[simp] theorem deliver_c11 (r : Record) (s : State) : (deliver r s).c11 = s.c11 := rfl
@[simp] theorem deliver_plus (r : Record) (s : State) : (deliver r s).plus = s.plus := rfl
@[simp] theorem deliver_minus (r : Record) (s : State) : (deliver r s).minus = s.minus := rfl
@[simp] theorem deliver_sout (r : Record) (s : State) : (deliver r s).sout = s.sout := rfl
@[simp] theorem deliver_dcache (r : Record) (s : State) : (deliver r s).dcache = s.dcache := rfl
@[simp] theorem deliver_s11 (r : Record) (s : State) : (deliver r s).s11 = s.s11 := rfl
@[simp] theorem deliver_l12 (r : Record) (s : State) : (deliver r s).l12 = s.l12 := rfl
@[simp] theorem deliver_fpos (r : Record) (s : State) : (deliver r s).fpos = s.fpos := rfl
@[simp] theorem deliver_fchan (r : Record) (s : State) : (deliver r s).fchan = s.fchan := rfl
@[simp] theorem deliver_fdata (r : Record) (s : State) : (deliver r s).fdata = s.fdata := rfl
@[simp] theorem deliver_conn (r : Record) (s : State) : (deliver r s).conn = s.conn := rfl
@[simp] theorem deliver_refused (r : Record) (s : State) : (deliver r s).refused = s.refused := rfl
@[simp] theorem deliver_refusals (r : Record) (s : State) : (deliver r s).refusals = s.refusals := rfl
@[simp] theorem deliver_out (r : Record) (s : State) : (deliver r s).out = s.out := rfl
@[simp] theorem deliver_kout (r : Record) (s : State) : (deliver r s).kout = s.kout := rfl
@[simp] theorem deliver_cond (r : Record) (s : State) : (deliver r s).cond = s.cond := rfl
@[simp] theorem deliver_params (r : Record) (s : State) : (deliver r s).params = s.params := rfl
@[simp] theorem deliver_input (r : Record) (s : State) : (deliver r s).input = r :: s.input := rfl

@[simp] theorem clearParser_c10 (s : State) : (clearParser s).c10 = s.c10 := rfl
@[simp] theorem clearParser_c11 (s : State) : (clearParser s).c11 = s.c11 := rfl
@[simp] theorem clearParser_plus (s : State) : (clearParser s).plus = s.plus := rfl
@[simp] theorem clearParser_minus (s : State) : (clearParser s).minus = s.minus := rfl
@[simp] theorem clearParser_sout (s : State) : (clearParser s).sout = s.sout := rfl
@[simp] theorem clearParser_dcache (s : State) : (clearParser s).dcache = s.dcache := rfl
@[simp] theorem clearParser_s11 (s : State) : (clearParser s).s11 = s.s11 := rfl
@[simp] theorem clearParser_l12 (s : State) : (clearParser s).l12 = s.l12 := rfl
@[simp] theorem clearParser_fpos (s : State) : (clearParser s).fpos = .p0 := rfl
@[simp] theorem clearParser_fchan (s : State) : (clearParser s).fchan = 0 := rfl
@[simp] theorem clearParser_fdata (s : State) : (clearParser s).fdata = 0 := rfl
@[simp] theorem clearParser_conn (s : State) : (clearParser s).conn = s.conn := rfl
@[simp] theorem clearParser_refused (s : State) : (clearParser s).refused = s.refused := rfl
@[simp] theorem clearParser_refusals (s : State) : (clearParser s).refusals = s.refusals := rfl
@[simp] theorem clearParser_out (s : State) : (clearParser s).out = s.out := rfl
@[simp] theorem clearParser_kout (s : State) : (clearParser s).kout = s.kout := rfl
@[simp] theorem clearParser_cond (s : State) : (clearParser s).cond = s.cond := rfl
@[simp] theorem clearParser_params (s : State) : (clearParser s).params = s.params := rfl
@[simp] theorem clearParser_input (s : State) : (clearParser s).input = s.input := rfl

@[simp] theorem clearTracker_c10 (s : State) : (clearTracker s).c10 = s.c10 := rfl
@[simp] theorem clearTracker_c11 (s : State) : (clearTracker s).c11 = 0 := rfl
@[simp] theorem clearTracker_plus (s : State) : (clearTracker s).plus = s.plus := rfl
@[simp] theorem clearTracker_minus (s : State) : (clearTracker s).minus = s.minus := rfl
@[simp] theorem clearTracker_sout (s : State) : (clearTracker s).sout = s.sout := rfl
@[simp] theorem clearTracker_dcache (s : State) : (clearTracker s).dcache = s.dcache := rfl
@[simp] theorem clearTracker_s11 (s : State) : (clearTracker s).s11 = 0 := rfl
@[simp] theorem clearTracker_l12 (s : State) : (clearTracker s).l12 = s.l12 := rfl
@[simp] theorem clearTracker_fpos (s : State) : (clearTracker s).fpos = s.fpos := rfl
@[simp] theorem clearTracker_fchan (s : State) : (clearTracker s).fchan = s.fchan := rfl
@[simp] theorem clearTracker_fdata (s : State) : (clearTracker s).fdata = s.fdata := rfl
@[simp] theorem clearTracker_conn (s : State) : (clearTracker s).conn = s.conn := rfl
@[simp] theorem clearTracker_refused (s : State) : (clearTracker s).refused = s.refused := rfl
@[simp] theorem clearTracker_refusals (s : State) : (clearTracker s).refusals = s.refusals := rfl
@[simp] theorem clearTracker_out (s : State) : (clearTracker s).out = s.out := rfl
@[simp] theorem clearTracker_kout (s : State) : (clearTracker s).kout = s.kout := rfl
@[simp] theorem clearTracker_cond (s : State) : (clearTracker s).cond = s.cond := rfl
@[simp] theorem clearTracker_params (s : State) : (clearTracker s).params = s.params := rfl
@[simp] theorem clearTracker_input (s : State) : (clearTracker s).input = s.input := rfl

@[simp] theorem clearDisplay_c10 (s : State) : (clearDisplay s).c10 = 0 := rfl
@[simp] theorem clearDisplay_c11 (s : State) : (clearDisplay s).c11 = s.c11 := rfl
@[simp] theorem clearDisplay_plus (s : State) : (clearDisplay s).plus = ⟨false, false, false⟩ := rfl
@[simp] theorem clearDisplay_minus (s : State) : (clearDisplay s).minus = ⟨false, false, false⟩ := rfl
@[simp] theorem clearDisplay_sout (s : State) : (clearDisplay s).sout = ⟨.blank, .blank, .blank⟩ := rfl
@[simp] theorem clearDisplay_dcache (s : State) : (clearDisplay s).dcache = Vector.replicate 21 .blank := rfl
@[simp] theorem clearDisplay_s11 (s : State) : (clearDisplay s).s11 = s.s11 := rfl
@[simp] theorem clearDisplay_l12 (s : State) : (clearDisplay s).l12 = ⟨false, false, false, false, false, false⟩ := rfl
@[simp] theorem clearDisplay_fpos (s : State) : (clearDisplay s).fpos = s.fpos := rfl
@[simp] theorem clearDisplay_fchan (s : State) : (clearDisplay s).fchan = s.fchan := rfl
@[simp] theorem clearDisplay_fdata (s : State) : (clearDisplay s).fdata = s.fdata := rfl
@[simp] theorem clearDisplay_conn (s : State) : (clearDisplay s).conn = s.conn := rfl
@[simp] theorem clearDisplay_refused (s : State) : (clearDisplay s).refused = s.refused := rfl
@[simp] theorem clearDisplay_refusals (s : State) : (clearDisplay s).refusals = s.refusals := rfl
@[simp] theorem clearDisplay_out (s : State) : (clearDisplay s).out = s.out := rfl
@[simp] theorem clearDisplay_kout (s : State) : (clearDisplay s).kout = s.kout := rfl
@[simp] theorem clearDisplay_cond (s : State) : (clearDisplay s).cond = s.cond := rfl
@[simp] theorem clearDisplay_params (s : State) : (clearDisplay s).params = s.params := rfl
@[simp] theorem clearDisplay_input (s : State) : (clearDisplay s).input = s.input := rfl

end Sys2Proof.Machine
end

