-- ==== Sys2Proof/Laws/Frames.lean ====
section
/-! SUPPORT. What each conditional operation leaves unchanged, one lemma per field. -/

namespace Sys2Proof.Machine

@[simp] theorem emit_c10 (role : Role) (cmd : Bytes) (s : State) : (emit role cmd s).c10 = s.c10 := by unfold emit; split <;> rfl
@[simp] theorem emit_c11 (role : Role) (cmd : Bytes) (s : State) : (emit role cmd s).c11 = s.c11 := by unfold emit; split <;> rfl
@[simp] theorem emit_plus (role : Role) (cmd : Bytes) (s : State) : (emit role cmd s).plus = s.plus := by unfold emit; split <;> rfl
@[simp] theorem emit_minus (role : Role) (cmd : Bytes) (s : State) : (emit role cmd s).minus = s.minus := by unfold emit; split <;> rfl
@[simp] theorem emit_sout (role : Role) (cmd : Bytes) (s : State) : (emit role cmd s).sout = s.sout := by unfold emit; split <;> rfl
@[simp] theorem emit_dcache (role : Role) (cmd : Bytes) (s : State) : (emit role cmd s).dcache = s.dcache := by unfold emit; split <;> rfl
@[simp] theorem emit_s11 (role : Role) (cmd : Bytes) (s : State) : (emit role cmd s).s11 = s.s11 := by unfold emit; split <;> rfl
@[simp] theorem emit_l12 (role : Role) (cmd : Bytes) (s : State) : (emit role cmd s).l12 = s.l12 := by unfold emit; split <;> rfl
@[simp] theorem emit_fpos (role : Role) (cmd : Bytes) (s : State) : (emit role cmd s).fpos = s.fpos := by unfold emit; split <;> rfl
@[simp] theorem emit_fchan (role : Role) (cmd : Bytes) (s : State) : (emit role cmd s).fchan = s.fchan := by unfold emit; split <;> rfl
@[simp] theorem emit_fdata (role : Role) (cmd : Bytes) (s : State) : (emit role cmd s).fdata = s.fdata := by unfold emit; split <;> rfl
@[simp] theorem emit_conn (role : Role) (cmd : Bytes) (s : State) : (emit role cmd s).conn = s.conn := by unfold emit; split <;> rfl
@[simp] theorem emit_refused (role : Role) (cmd : Bytes) (s : State) : (emit role cmd s).refused = s.refused := by unfold emit; split <;> rfl
@[simp] theorem emit_refusals (role : Role) (cmd : Bytes) (s : State) : (emit role cmd s).refusals = s.refusals := by unfold emit; split <;> rfl
@[simp] theorem emit_kout (role : Role) (cmd : Bytes) (s : State) : (emit role cmd s).kout = s.kout := by unfold emit; split <;> rfl
@[simp] theorem emit_params (role : Role) (cmd : Bytes) (s : State) : (emit role cmd s).params = s.params := by unfold emit; split <;> rfl
@[simp] theorem emit_input (role : Role) (cmd : Bytes) (s : State) : (emit role cmd s).input = s.input := by unfold emit; split <;> rfl

@[simp] theorem digitUpdate_c10 (f : DigitField) (p : BitVec 5) (s : State) : (digitUpdate f p s).c10 = s.c10 := by unfold digitUpdate; split <;> simp
@[simp] theorem digitUpdate_c11 (f : DigitField) (p : BitVec 5) (s : State) : (digitUpdate f p s).c11 = s.c11 := by unfold digitUpdate; split <;> simp
@[simp] theorem digitUpdate_plus (f : DigitField) (p : BitVec 5) (s : State) : (digitUpdate f p s).plus = s.plus := by unfold digitUpdate; split <;> simp
@[simp] theorem digitUpdate_minus (f : DigitField) (p : BitVec 5) (s : State) : (digitUpdate f p s).minus = s.minus := by unfold digitUpdate; split <;> simp
@[simp] theorem digitUpdate_sout (f : DigitField) (p : BitVec 5) (s : State) : (digitUpdate f p s).sout = s.sout := by unfold digitUpdate; split <;> simp
@[simp] theorem digitUpdate_s11 (f : DigitField) (p : BitVec 5) (s : State) : (digitUpdate f p s).s11 = s.s11 := by unfold digitUpdate; split <;> simp
@[simp] theorem digitUpdate_l12 (f : DigitField) (p : BitVec 5) (s : State) : (digitUpdate f p s).l12 = s.l12 := by unfold digitUpdate; split <;> simp
@[simp] theorem digitUpdate_fpos (f : DigitField) (p : BitVec 5) (s : State) : (digitUpdate f p s).fpos = s.fpos := by unfold digitUpdate; split <;> simp
@[simp] theorem digitUpdate_fchan (f : DigitField) (p : BitVec 5) (s : State) : (digitUpdate f p s).fchan = s.fchan := by unfold digitUpdate; split <;> simp
@[simp] theorem digitUpdate_fdata (f : DigitField) (p : BitVec 5) (s : State) : (digitUpdate f p s).fdata = s.fdata := by unfold digitUpdate; split <;> simp
@[simp] theorem digitUpdate_conn (f : DigitField) (p : BitVec 5) (s : State) : (digitUpdate f p s).conn = s.conn := by unfold digitUpdate; split <;> simp
@[simp] theorem digitUpdate_refused (f : DigitField) (p : BitVec 5) (s : State) : (digitUpdate f p s).refused = s.refused := by unfold digitUpdate; split <;> simp
@[simp] theorem digitUpdate_refusals (f : DigitField) (p : BitVec 5) (s : State) : (digitUpdate f p s).refusals = s.refusals := by unfold digitUpdate; split <;> simp
@[simp] theorem digitUpdate_kout (f : DigitField) (p : BitVec 5) (s : State) : (digitUpdate f p s).kout = s.kout := by unfold digitUpdate; split <;> simp
@[simp] theorem digitUpdate_params (f : DigitField) (p : BitVec 5) (s : State) : (digitUpdate f p s).params = s.params := by unfold digitUpdate; split <;> simp
@[simp] theorem digitUpdate_input (f : DigitField) (p : BitVec 5) (s : State) : (digitUpdate f p s).input = s.input := by unfold digitUpdate; split <;> simp

@[simp] theorem offerSign_c10 (r : Row) (w : SignFlag) (sb : Bool) (s : State) : (offerSign r w sb s).c10 = s.c10 := by cases w <;> rfl
@[simp] theorem offerSign_c11 (r : Row) (w : SignFlag) (sb : Bool) (s : State) : (offerSign r w sb s).c11 = s.c11 := by cases w <;> rfl
@[simp] theorem offerSign_sout (r : Row) (w : SignFlag) (sb : Bool) (s : State) : (offerSign r w sb s).sout = s.sout := by cases w <;> rfl
@[simp] theorem offerSign_dcache (r : Row) (w : SignFlag) (sb : Bool) (s : State) : (offerSign r w sb s).dcache = s.dcache := by cases w <;> rfl
@[simp] theorem offerSign_s11 (r : Row) (w : SignFlag) (sb : Bool) (s : State) : (offerSign r w sb s).s11 = s.s11 := by cases w <;> rfl
@[simp] theorem offerSign_l12 (r : Row) (w : SignFlag) (sb : Bool) (s : State) : (offerSign r w sb s).l12 = s.l12 := by cases w <;> rfl
@[simp] theorem offerSign_fpos (r : Row) (w : SignFlag) (sb : Bool) (s : State) : (offerSign r w sb s).fpos = s.fpos := by cases w <;> rfl
@[simp] theorem offerSign_fchan (r : Row) (w : SignFlag) (sb : Bool) (s : State) : (offerSign r w sb s).fchan = s.fchan := by cases w <;> rfl
@[simp] theorem offerSign_fdata (r : Row) (w : SignFlag) (sb : Bool) (s : State) : (offerSign r w sb s).fdata = s.fdata := by cases w <;> rfl
@[simp] theorem offerSign_conn (r : Row) (w : SignFlag) (sb : Bool) (s : State) : (offerSign r w sb s).conn = s.conn := by cases w <;> rfl
@[simp] theorem offerSign_refused (r : Row) (w : SignFlag) (sb : Bool) (s : State) : (offerSign r w sb s).refused = s.refused := by cases w <;> rfl
@[simp] theorem offerSign_refusals (r : Row) (w : SignFlag) (sb : Bool) (s : State) : (offerSign r w sb s).refusals = s.refusals := by cases w <;> rfl
@[simp] theorem offerSign_out (r : Row) (w : SignFlag) (sb : Bool) (s : State) : (offerSign r w sb s).out = s.out := by cases w <;> rfl
@[simp] theorem offerSign_kout (r : Row) (w : SignFlag) (sb : Bool) (s : State) : (offerSign r w sb s).kout = s.kout := by cases w <;> rfl
@[simp] theorem offerSign_cond (r : Row) (w : SignFlag) (sb : Bool) (s : State) : (offerSign r w sb s).cond = s.cond := by cases w <;> rfl
@[simp] theorem offerSign_params (r : Row) (w : SignFlag) (sb : Bool) (s : State) : (offerSign r w sb s).params = s.params := by cases w <;> rfl
@[simp] theorem offerSign_input (r : Row) (w : SignFlag) (sb : Bool) (s : State) : (offerSign r w sb s).input = s.input := by cases w <;> rfl

@[simp] theorem commandSign_c10 (r : Row) (n : Sign) (s : State) : (commandSign r n s).c10 = s.c10 := by unfold commandSign; split <;> simp
@[simp] theorem commandSign_c11 (r : Row) (n : Sign) (s : State) : (commandSign r n s).c11 = s.c11 := by unfold commandSign; split <;> simp
@[simp] theorem commandSign_plus (r : Row) (n : Sign) (s : State) : (commandSign r n s).plus = s.plus := by unfold commandSign; split <;> simp
@[simp] theorem commandSign_minus (r : Row) (n : Sign) (s : State) : (commandSign r n s).minus = s.minus := by unfold commandSign; split <;> simp
@[simp] theorem commandSign_dcache (r : Row) (n : Sign) (s : State) : (commandSign r n s).dcache = s.dcache := by unfold commandSign; split <;> simp
@[simp] theorem commandSign_s11 (r : Row) (n : Sign) (s : State) : (commandSign r n s).s11 = s.s11 := by unfold commandSign; split <;> simp
@[simp] theorem commandSign_l12 (r : Row) (n : Sign) (s : State) : (commandSign r n s).l12 = s.l12 := by unfold commandSign; split <;> simp
@[simp] theorem commandSign_fpos (r : Row) (n : Sign) (s : State) : (commandSign r n s).fpos = s.fpos := by unfold commandSign; split <;> simp
@[simp] theorem commandSign_fchan (r : Row) (n : Sign) (s : State) : (commandSign r n s).fchan = s.fchan := by unfold commandSign; split <;> simp
@[simp] theorem commandSign_fdata (r : Row) (n : Sign) (s : State) : (commandSign r n s).fdata = s.fdata := by unfold commandSign; split <;> simp
@[simp] theorem commandSign_conn (r : Row) (n : Sign) (s : State) : (commandSign r n s).conn = s.conn := by unfold commandSign; split <;> simp
@[simp] theorem commandSign_refused (r : Row) (n : Sign) (s : State) : (commandSign r n s).refused = s.refused := by unfold commandSign; split <;> simp
@[simp] theorem commandSign_refusals (r : Row) (n : Sign) (s : State) : (commandSign r n s).refusals = s.refusals := by unfold commandSign; split <;> simp
@[simp] theorem commandSign_kout (r : Row) (n : Sign) (s : State) : (commandSign r n s).kout = s.kout := by unfold commandSign; split <;> simp
@[simp] theorem commandSign_params (r : Row) (n : Sign) (s : State) : (commandSign r n s).params = s.params := by unfold commandSign; split <;> simp
@[simp] theorem commandSign_input (r : Row) (n : Sign) (s : State) : (commandSign r n s).input = s.input := by unfold commandSign; split <;> simp

@[simp] theorem signUpdate_c10 (r : Row) (w : SignFlag) (sb : Bool) (s : State) : (signUpdate r w sb s).c10 = s.c10 := by simp [signUpdate]
@[simp] theorem signUpdate_c11 (r : Row) (w : SignFlag) (sb : Bool) (s : State) : (signUpdate r w sb s).c11 = s.c11 := by simp [signUpdate]
@[simp] theorem signUpdate_dcache (r : Row) (w : SignFlag) (sb : Bool) (s : State) : (signUpdate r w sb s).dcache = s.dcache := by simp [signUpdate]
@[simp] theorem signUpdate_s11 (r : Row) (w : SignFlag) (sb : Bool) (s : State) : (signUpdate r w sb s).s11 = s.s11 := by simp [signUpdate]
@[simp] theorem signUpdate_l12 (r : Row) (w : SignFlag) (sb : Bool) (s : State) : (signUpdate r w sb s).l12 = s.l12 := by simp [signUpdate]
@[simp] theorem signUpdate_fpos (r : Row) (w : SignFlag) (sb : Bool) (s : State) : (signUpdate r w sb s).fpos = s.fpos := by simp [signUpdate]
@[simp] theorem signUpdate_fchan (r : Row) (w : SignFlag) (sb : Bool) (s : State) : (signUpdate r w sb s).fchan = s.fchan := by simp [signUpdate]
@[simp] theorem signUpdate_fdata (r : Row) (w : SignFlag) (sb : Bool) (s : State) : (signUpdate r w sb s).fdata = s.fdata := by simp [signUpdate]
@[simp] theorem signUpdate_conn (r : Row) (w : SignFlag) (sb : Bool) (s : State) : (signUpdate r w sb s).conn = s.conn := by simp [signUpdate]
@[simp] theorem signUpdate_refused (r : Row) (w : SignFlag) (sb : Bool) (s : State) : (signUpdate r w sb s).refused = s.refused := by simp [signUpdate]
@[simp] theorem signUpdate_refusals (r : Row) (w : SignFlag) (sb : Bool) (s : State) : (signUpdate r w sb s).refusals = s.refusals := by simp [signUpdate]
@[simp] theorem signUpdate_kout (r : Row) (w : SignFlag) (sb : Bool) (s : State) : (signUpdate r w sb s).kout = s.kout := by simp [signUpdate]
@[simp] theorem signUpdate_params (r : Row) (w : SignFlag) (sb : Bool) (s : State) : (signUpdate r w sb s).params = s.params := by simp [signUpdate]
@[simp] theorem signUpdate_input (r : Row) (w : SignFlag) (sb : Bool) (s : State) : (signUpdate r w sb s).input = s.input := by simp [signUpdate]

@[simp] theorem lampStep_c10 (b : LampBit) (v : Bool) (s : State) : (lampStep b v s).c10 = s.c10 := by unfold lampStep; split <;> simp
@[simp] theorem lampStep_c11 (b : LampBit) (v : Bool) (s : State) : (lampStep b v s).c11 = s.c11 := by unfold lampStep; split <;> simp
@[simp] theorem lampStep_plus (b : LampBit) (v : Bool) (s : State) : (lampStep b v s).plus = s.plus := by unfold lampStep; split <;> simp
@[simp] theorem lampStep_minus (b : LampBit) (v : Bool) (s : State) : (lampStep b v s).minus = s.minus := by unfold lampStep; split <;> simp
@[simp] theorem lampStep_sout (b : LampBit) (v : Bool) (s : State) : (lampStep b v s).sout = s.sout := by unfold lampStep; split <;> simp
@[simp] theorem lampStep_dcache (b : LampBit) (v : Bool) (s : State) : (lampStep b v s).dcache = s.dcache := by unfold lampStep; split <;> simp
@[simp] theorem lampStep_s11 (b : LampBit) (v : Bool) (s : State) : (lampStep b v s).s11 = s.s11 := by unfold lampStep; split <;> simp
@[simp] theorem lampStep_fpos (b : LampBit) (v : Bool) (s : State) : (lampStep b v s).fpos = s.fpos := by unfold lampStep; split <;> simp
@[simp] theorem lampStep_fchan (b : LampBit) (v : Bool) (s : State) : (lampStep b v s).fchan = s.fchan := by unfold lampStep; split <;> simp
@[simp] theorem lampStep_fdata (b : LampBit) (v : Bool) (s : State) : (lampStep b v s).fdata = s.fdata := by unfold lampStep; split <;> simp
@[simp] theorem lampStep_conn (b : LampBit) (v : Bool) (s : State) : (lampStep b v s).conn = s.conn := by unfold lampStep; split <;> simp
@[simp] theorem lampStep_refused (b : LampBit) (v : Bool) (s : State) : (lampStep b v s).refused = s.refused := by unfold lampStep; split <;> simp
@[simp] theorem lampStep_refusals (b : LampBit) (v : Bool) (s : State) : (lampStep b v s).refusals = s.refusals := by unfold lampStep; split <;> simp
@[simp] theorem lampStep_kout (b : LampBit) (v : Bool) (s : State) : (lampStep b v s).kout = s.kout := by unfold lampStep; split <;> simp
@[simp] theorem lampStep_params (b : LampBit) (v : Bool) (s : State) : (lampStep b v s).params = s.params := by unfold lampStep; split <;> simp
@[simp] theorem lampStep_input (b : LampBit) (v : Bool) (s : State) : (lampStep b v s).input = s.input := by unfold lampStep; split <;> simp

@[simp] theorem lamp12Update_c10 (bit : LampBit → Bool) (s : State) : (lamp12Update bit s).c10 = s.c10 := by simp [lamp12Update, lampBits]
@[simp] theorem lamp12Update_c11 (bit : LampBit → Bool) (s : State) : (lamp12Update bit s).c11 = s.c11 := by simp [lamp12Update, lampBits]
@[simp] theorem lamp12Update_plus (bit : LampBit → Bool) (s : State) : (lamp12Update bit s).plus = s.plus := by simp [lamp12Update, lampBits]
@[simp] theorem lamp12Update_minus (bit : LampBit → Bool) (s : State) : (lamp12Update bit s).minus = s.minus := by simp [lamp12Update, lampBits]
@[simp] theorem lamp12Update_sout (bit : LampBit → Bool) (s : State) : (lamp12Update bit s).sout = s.sout := by simp [lamp12Update, lampBits]
@[simp] theorem lamp12Update_dcache (bit : LampBit → Bool) (s : State) : (lamp12Update bit s).dcache = s.dcache := by simp [lamp12Update, lampBits]
@[simp] theorem lamp12Update_s11 (bit : LampBit → Bool) (s : State) : (lamp12Update bit s).s11 = s.s11 := by simp [lamp12Update, lampBits]
@[simp] theorem lamp12Update_fpos (bit : LampBit → Bool) (s : State) : (lamp12Update bit s).fpos = s.fpos := by simp [lamp12Update, lampBits]
@[simp] theorem lamp12Update_fchan (bit : LampBit → Bool) (s : State) : (lamp12Update bit s).fchan = s.fchan := by simp [lamp12Update, lampBits]
@[simp] theorem lamp12Update_fdata (bit : LampBit → Bool) (s : State) : (lamp12Update bit s).fdata = s.fdata := by simp [lamp12Update, lampBits]
@[simp] theorem lamp12Update_conn (bit : LampBit → Bool) (s : State) : (lamp12Update bit s).conn = s.conn := by simp [lamp12Update, lampBits]
@[simp] theorem lamp12Update_refused (bit : LampBit → Bool) (s : State) : (lamp12Update bit s).refused = s.refused := by simp [lamp12Update, lampBits]
@[simp] theorem lamp12Update_refusals (bit : LampBit → Bool) (s : State) : (lamp12Update bit s).refusals = s.refusals := by simp [lamp12Update, lampBits]
@[simp] theorem lamp12Update_kout (bit : LampBit → Bool) (s : State) : (lamp12Update bit s).kout = s.kout := by simp [lamp12Update, lampBits]
@[simp] theorem lamp12Update_params (bit : LampBit → Bool) (s : State) : (lamp12Update bit s).params = s.params := by simp [lamp12Update, lampBits]
@[simp] theorem lamp12Update_input (bit : LampBit → Bool) (s : State) : (lamp12Update bit s).input = s.input := by simp [lamp12Update, lampBits]

@[simp] theorem trackerCommand_c10 (e : Option Ch11Entry) (v : Bool) (s : State) : (trackerCommand e v s).c10 = s.c10 := by unfold trackerCommand; split <;> simp
@[simp] theorem trackerCommand_c11 (e : Option Ch11Entry) (v : Bool) (s : State) : (trackerCommand e v s).c11 = s.c11 := by unfold trackerCommand; split <;> simp
@[simp] theorem trackerCommand_plus (e : Option Ch11Entry) (v : Bool) (s : State) : (trackerCommand e v s).plus = s.plus := by unfold trackerCommand; split <;> simp
@[simp] theorem trackerCommand_minus (e : Option Ch11Entry) (v : Bool) (s : State) : (trackerCommand e v s).minus = s.minus := by unfold trackerCommand; split <;> simp
@[simp] theorem trackerCommand_sout (e : Option Ch11Entry) (v : Bool) (s : State) : (trackerCommand e v s).sout = s.sout := by unfold trackerCommand; split <;> simp
@[simp] theorem trackerCommand_dcache (e : Option Ch11Entry) (v : Bool) (s : State) : (trackerCommand e v s).dcache = s.dcache := by unfold trackerCommand; split <;> simp
@[simp] theorem trackerCommand_s11 (e : Option Ch11Entry) (v : Bool) (s : State) : (trackerCommand e v s).s11 = s.s11 := by unfold trackerCommand; split <;> simp
@[simp] theorem trackerCommand_l12 (e : Option Ch11Entry) (v : Bool) (s : State) : (trackerCommand e v s).l12 = s.l12 := by unfold trackerCommand; split <;> simp
@[simp] theorem trackerCommand_fpos (e : Option Ch11Entry) (v : Bool) (s : State) : (trackerCommand e v s).fpos = s.fpos := by unfold trackerCommand; split <;> simp
@[simp] theorem trackerCommand_fchan (e : Option Ch11Entry) (v : Bool) (s : State) : (trackerCommand e v s).fchan = s.fchan := by unfold trackerCommand; split <;> simp
@[simp] theorem trackerCommand_fdata (e : Option Ch11Entry) (v : Bool) (s : State) : (trackerCommand e v s).fdata = s.fdata := by unfold trackerCommand; split <;> simp
@[simp] theorem trackerCommand_conn (e : Option Ch11Entry) (v : Bool) (s : State) : (trackerCommand e v s).conn = s.conn := by unfold trackerCommand; split <;> simp
@[simp] theorem trackerCommand_refused (e : Option Ch11Entry) (v : Bool) (s : State) : (trackerCommand e v s).refused = s.refused := by unfold trackerCommand; split <;> simp
@[simp] theorem trackerCommand_refusals (e : Option Ch11Entry) (v : Bool) (s : State) : (trackerCommand e v s).refusals = s.refusals := by unfold trackerCommand; split <;> simp
@[simp] theorem trackerCommand_kout (e : Option Ch11Entry) (v : Bool) (s : State) : (trackerCommand e v s).kout = s.kout := by unfold trackerCommand; split <;> simp
@[simp] theorem trackerCommand_params (e : Option Ch11Entry) (v : Bool) (s : State) : (trackerCommand e v s).params = s.params := by unfold trackerCommand; split <;> simp
@[simp] theorem trackerCommand_input (e : Option Ch11Entry) (v : Bool) (s : State) : (trackerCommand e v s).input = s.input := by unfold trackerCommand; split <;> simp

@[simp] theorem trkSetBit_c10 (k : RegBit) (v : Bool) (s : State) : (trkSetBit k v s).c10 = s.c10 := by unfold trkSetBit; split <;> simp
@[simp] theorem trkSetBit_c11 (k : RegBit) (v : Bool) (s : State) : (trkSetBit k v s).c11 = s.c11 := by unfold trkSetBit; split <;> simp
@[simp] theorem trkSetBit_plus (k : RegBit) (v : Bool) (s : State) : (trkSetBit k v s).plus = s.plus := by unfold trkSetBit; split <;> simp
@[simp] theorem trkSetBit_minus (k : RegBit) (v : Bool) (s : State) : (trkSetBit k v s).minus = s.minus := by unfold trkSetBit; split <;> simp
@[simp] theorem trkSetBit_sout (k : RegBit) (v : Bool) (s : State) : (trkSetBit k v s).sout = s.sout := by unfold trkSetBit; split <;> simp
@[simp] theorem trkSetBit_dcache (k : RegBit) (v : Bool) (s : State) : (trkSetBit k v s).dcache = s.dcache := by unfold trkSetBit; split <;> simp
@[simp] theorem trkSetBit_l12 (k : RegBit) (v : Bool) (s : State) : (trkSetBit k v s).l12 = s.l12 := by unfold trkSetBit; split <;> simp
@[simp] theorem trkSetBit_fpos (k : RegBit) (v : Bool) (s : State) : (trkSetBit k v s).fpos = s.fpos := by unfold trkSetBit; split <;> simp
@[simp] theorem trkSetBit_fchan (k : RegBit) (v : Bool) (s : State) : (trkSetBit k v s).fchan = s.fchan := by unfold trkSetBit; split <;> simp
@[simp] theorem trkSetBit_fdata (k : RegBit) (v : Bool) (s : State) : (trkSetBit k v s).fdata = s.fdata := by unfold trkSetBit; split <;> simp
@[simp] theorem trkSetBit_conn (k : RegBit) (v : Bool) (s : State) : (trkSetBit k v s).conn = s.conn := by unfold trkSetBit; split <;> simp
@[simp] theorem trkSetBit_refused (k : RegBit) (v : Bool) (s : State) : (trkSetBit k v s).refused = s.refused := by unfold trkSetBit; split <;> simp
@[simp] theorem trkSetBit_refusals (k : RegBit) (v : Bool) (s : State) : (trkSetBit k v s).refusals = s.refusals := by unfold trkSetBit; split <;> simp
@[simp] theorem trkSetBit_kout (k : RegBit) (v : Bool) (s : State) : (trkSetBit k v s).kout = s.kout := by unfold trkSetBit; split <;> simp
@[simp] theorem trkSetBit_params (k : RegBit) (v : Bool) (s : State) : (trkSetBit k v s).params = s.params := by unfold trkSetBit; split <;> simp
@[simp] theorem trkSetBit_input (k : RegBit) (v : Bool) (s : State) : (trkSetBit k v s).input = s.input := by unfold trkSetBit; split <;> simp

@[simp] theorem trkSetIndexed_c10 (i : BitVec 4) (v : Bool) (s : State) : (trkSetIndexed i v s).c10 = s.c10 := by unfold trkSetIndexed; split <;> simp
@[simp] theorem trkSetIndexed_c11 (i : BitVec 4) (v : Bool) (s : State) : (trkSetIndexed i v s).c11 = s.c11 := by unfold trkSetIndexed; split <;> simp
@[simp] theorem trkSetIndexed_plus (i : BitVec 4) (v : Bool) (s : State) : (trkSetIndexed i v s).plus = s.plus := by unfold trkSetIndexed; split <;> simp
@[simp] theorem trkSetIndexed_minus (i : BitVec 4) (v : Bool) (s : State) : (trkSetIndexed i v s).minus = s.minus := by unfold trkSetIndexed; split <;> simp
@[simp] theorem trkSetIndexed_sout (i : BitVec 4) (v : Bool) (s : State) : (trkSetIndexed i v s).sout = s.sout := by unfold trkSetIndexed; split <;> simp
@[simp] theorem trkSetIndexed_dcache (i : BitVec 4) (v : Bool) (s : State) : (trkSetIndexed i v s).dcache = s.dcache := by unfold trkSetIndexed; split <;> simp
@[simp] theorem trkSetIndexed_l12 (i : BitVec 4) (v : Bool) (s : State) : (trkSetIndexed i v s).l12 = s.l12 := by unfold trkSetIndexed; split <;> simp
@[simp] theorem trkSetIndexed_fpos (i : BitVec 4) (v : Bool) (s : State) : (trkSetIndexed i v s).fpos = s.fpos := by unfold trkSetIndexed; split <;> simp
@[simp] theorem trkSetIndexed_fchan (i : BitVec 4) (v : Bool) (s : State) : (trkSetIndexed i v s).fchan = s.fchan := by unfold trkSetIndexed; split <;> simp
@[simp] theorem trkSetIndexed_fdata (i : BitVec 4) (v : Bool) (s : State) : (trkSetIndexed i v s).fdata = s.fdata := by unfold trkSetIndexed; split <;> simp
@[simp] theorem trkSetIndexed_conn (i : BitVec 4) (v : Bool) (s : State) : (trkSetIndexed i v s).conn = s.conn := by unfold trkSetIndexed; split <;> simp
@[simp] theorem trkSetIndexed_refused (i : BitVec 4) (v : Bool) (s : State) : (trkSetIndexed i v s).refused = s.refused := by unfold trkSetIndexed; split <;> simp
@[simp] theorem trkSetIndexed_refusals (i : BitVec 4) (v : Bool) (s : State) : (trkSetIndexed i v s).refusals = s.refusals := by unfold trkSetIndexed; split <;> simp
@[simp] theorem trkSetIndexed_kout (i : BitVec 4) (v : Bool) (s : State) : (trkSetIndexed i v s).kout = s.kout := by unfold trkSetIndexed; split <;> simp
@[simp] theorem trkSetIndexed_params (i : BitVec 4) (v : Bool) (s : State) : (trkSetIndexed i v s).params = s.params := by unfold trkSetIndexed; split <;> simp
@[simp] theorem trkSetIndexed_input (i : BitVec 4) (v : Bool) (s : State) : (trkSetIndexed i v s).input = s.input := by unfold trkSetIndexed; split <;> simp

@[simp] theorem presentAll_c10 (s : State) : (presentAll s).c10 = s.c10 := by simp [presentAll]
@[simp] theorem presentAll_c11 (s : State) : (presentAll s).c11 = s.c11 := by simp [presentAll]
@[simp] theorem presentAll_plus (s : State) : (presentAll s).plus = s.plus := by simp [presentAll]
@[simp] theorem presentAll_minus (s : State) : (presentAll s).minus = s.minus := by simp [presentAll]
@[simp] theorem presentAll_sout (s : State) : (presentAll s).sout = s.sout := by simp [presentAll]
@[simp] theorem presentAll_dcache (s : State) : (presentAll s).dcache = s.dcache := by simp [presentAll]
@[simp] theorem presentAll_l12 (s : State) : (presentAll s).l12 = s.l12 := by simp [presentAll]
@[simp] theorem presentAll_fpos (s : State) : (presentAll s).fpos = s.fpos := by simp [presentAll]
@[simp] theorem presentAll_fchan (s : State) : (presentAll s).fchan = s.fchan := by simp [presentAll]
@[simp] theorem presentAll_fdata (s : State) : (presentAll s).fdata = s.fdata := by simp [presentAll]
@[simp] theorem presentAll_conn (s : State) : (presentAll s).conn = s.conn := by simp [presentAll]
@[simp] theorem presentAll_refused (s : State) : (presentAll s).refused = s.refused := by simp [presentAll]
@[simp] theorem presentAll_refusals (s : State) : (presentAll s).refusals = s.refusals := by simp [presentAll]
@[simp] theorem presentAll_kout (s : State) : (presentAll s).kout = s.kout := by simp [presentAll]
@[simp] theorem presentAll_params (s : State) : (presentAll s).params = s.params := by simp [presentAll]
@[simp] theorem presentAll_input (s : State) : (presentAll s).input = s.input := by simp [presentAll]

/-! ## The output of the other role, the other digits, the other rows -/

@[simp] theorem emit_display_out_indicator (cmd : Bytes) (s : State) : (emit .display cmd s).out.indicator = s.out.indicator := by
  unfold emit; split <;> rfl

@[simp] theorem emit_indicator_out_display (cmd : Bytes) (s : State) : (emit .indicator cmd s).out.display = s.out.display := by
  unfold emit; split <;> rfl

@[simp] theorem digitUpdate_out_indicator (f : DigitField) (p : BitVec 5) (s : State) :
    (digitUpdate f p s).out.indicator = s.out.indicator := by
  unfold digitUpdate; split <;> simp

@[simp] theorem signUpdate_out_indicator (r : Row) (w : SignFlag) (sb : Bool) (s : State) :
    (signUpdate r w sb s).out.indicator = s.out.indicator := by
  unfold signUpdate commandSign; split <;> cases w <;> simp [offerSign]

@[simp] theorem lampStep_out_display (b : LampBit) (v : Bool) (s : State) : (lampStep b v s).out.display = s.out.display := by
  unfold lampStep; split <;> simp

@[simp] theorem lamp12Update_out_display (bit : LampBit → Bool) (s : State) :
    (lamp12Update bit s).out.display = s.out.display := by simp [lamp12Update, lampBits]

theorem digitUpdate_dcache_other {f g : DigitField} (h : g ≠ f) (p : BitVec 5) (s : State) :
    cacheGet (digitUpdate f p s).dcache g = cacheGet s.dcache g := by
  unfold digitUpdate; split <;> simp [h]

theorem signUpdate_sout (r : Row) (w : SignFlag) (sb : Bool) (s : State) :
    (signUpdate r w sb s).sout = rowSet s.sout r (rowNet r w sb (offerSign r w sb s)) := by
  unfold signUpdate commandSign
  split
  · next h => rw [h]; cases w <;> simp [offerSign]
  · cases w <;> simp [offerSign]

theorem signUpdate_plus (r : Row) (w : SignFlag) (sb : Bool) (s : State) :
    (signUpdate r w sb s).plus = (offerSign r w sb s).plus := by simp [signUpdate]

theorem signUpdate_minus (r : Row) (w : SignFlag) (sb : Bool) (s : State) :
    (signUpdate r w sb s).minus = (offerSign r w sb s).minus := by simp [signUpdate]

end Sys2Proof.Machine
end

