-- ==== Sys2Proof/Laws/Spec.lean ====
section
/-! SUPPORT. For each shared operation, one lemma that says everything it does, in the terms of Safety.lean. -/

namespace Sys2Proof.Machine

open Sys2Proof.Safety

/-! ## Commands -/

theorem encodeDigit_eq (p : Params) (f : DigitField) (d : Digit) : encodeDigit p f d = DIGIT p f d := by
  cases d with
  | blank => simp [encodeDigit, valueCommand, DIGIT, valueBytes, digitByte, digitVal]
  | num n =>
    have : (n.val : Int) ≠ -1 := by omega
    simp [encodeDigit, valueCommand, DIGIT, valueBytes, digitByte, digitVal, this]

theorem encodeSign_eq (p : Params) (r : Row) (s : Sign) : encodeSign p r s = SIGN p r s := by
  cases s <;> simp [encodeSign, valueCommand, SIGN, valueBytes, signByte, signCode]

theorem encodeLamp_eq (p : Params) (n : Lamp) (v : Bool) : encodeLamp p n v = LAMP p n v := by
  cases v <;> simp [encodeLamp, valueCommand, LAMP, valueBytes, boolByte]

theorem encodeActy_eq (p : Params) (v : Bool) : encodeActy p v = ACTY p v := by
  cases v <;> simp [encodeActy, valueCommand, ACTY, valueBytes, boolByte]

theorem encodeReset_eq (p : Params) (role : Role) : encodeReset p role = RESETCMD p role := rfl

/-! ## Emission -/

theorem emit_emits (role : Role) (cmd : Bytes) (s : State) : Emits role cmd s (emit role cmd s) := by
  constructor <;> intro h <;> simp [emit, h, report]

/-- `Emits` determines the state after. -/
theorem Emits.unique {role : Role} {cmd : Bytes} {s t u : State} (ht : Emits role cmd s t) (hu : Emits role cmd s u) :
    t = u := by
  cases h : roleGet s.conn role
  · rw [ht.2 h, hu.2 h]
  · rw [ht.1 h, hu.1 h]

theorem emitsAll_nil (s : State) : EmitsAll [] s s := by
  constructor <;> simp

theorem emit_emitsAll (role : Role) (cmd : Bytes) (s : State) : EmitsAll [(role, cmd)] s (emit role cmd s) := by
  cases h : roleGet s.conn role
  · refine ⟨fun q => ?_, ?_⟩ <;> simp [emit, h, report]
  · refine ⟨fun q => ?_, ?_⟩
    · by_cases hq : role = q
      · subst hq; simp [emit, h]
      · have hq' : ¬ q = role := fun e => hq e.symm
        simp [emit, h, hq, hq']
    · simp [emit, h]

theorem EmitsAll.trans {l m : List (Role × Bytes)} {s u t : State} (h1 : EmitsAll l s u) (hc : u.conn = s.conn)
    (h2 : EmitsAll m u t) : EmitsAll (l ++ m) s t := by
  refine ⟨fun role => ?_, ?_⟩
  · rw [h2.1 role, h1.1 role, hc]; simp
  · rw [h2.2, h1.2, hc]; simp

/-! ## Digits and signs -/

theorem digitUpdate_step (f : DigitField) (p : BitVec 5) (s : State) : DigitStep f p s (digitUpdate f p s) := by
  constructor
  · intro h
    simp [digitUpdate, h, report]
  · intro d h
    refine ⟨{ s with dcache := cacheSet s.dcache f d }, rfl, fun g => by simp, ?_⟩
    simp only [digitUpdate, h, encodeDigit_eq]
    exact emit_emits _ _ _

theorem netSign_is (prec : SignPrecedence) (p m : Bool) (prev : Sign) (which : SignFlag) (sb : Bool) :
    NetSignIs prec p m prev which sb (netSign prec p m prev which sb) := by
  cases prec <;> cases p <;> cases m <;> cases prev <;> cases which <;> cases sb <;> simp [NetSignIs, netSign, flagSign]

theorem commandSign_keep (r : Row) (n : Sign) (s : State) (h : n = rowGet s.sout r) : commandSign r n s = s := by
  simp [commandSign, h]

theorem commandSign_change (r : Row) (n : Sign) (s : State) (h : n ≠ rowGet s.sout r) :
    Emits .display (SIGN s.params r n) { s with sout := rowSet s.sout r n } (commandSign r n s) := by
  simp only [commandSign, h, if_false, encodeSign_eq]
  exact emit_emits _ _ _

theorem signUpdate_step (r : Row) (which : SignFlag) (sb : Bool) (s : State) :
    SignStep r which sb s (signUpdate r which sb s) := by
  cases which with
  | plus =>
    refine ⟨newFlag s.params.signFlagMode (rowGet s.plus r) sb, rowGet s.minus r, rowNet r .plus sb (offerSign r .plus sb s),
      fun _ => ⟨rfl, fun h => by simp [newFlag, h], fun h => by cases sb <;> simp [newFlag, h]⟩, by simp, ?_, ?_, ?_⟩
    · simpa [rowNet, offerSign] using netSign_is s.params.signPrecedence
        (newFlag s.params.signFlagMode (rowGet s.plus r) sb) (rowGet s.minus r) (rowGet s.sout r) .plus sb
    · intro h
      rw [rowSet_rowGet_self]
      exact commandSign_keep r _ _ h
    · intro h
      rw [rowSet_rowGet_self]
      exact commandSign_change r _ (offerSign r .plus sb s) h
  | minus =>
    refine ⟨rowGet s.plus r, newFlag s.params.signFlagMode (rowGet s.minus r) sb, rowNet r .minus sb (offerSign r .minus sb s),
      by simp, fun _ => ⟨rfl, fun h => by simp [newFlag, h], fun h => by cases sb <;> simp [newFlag, h]⟩, ?_, ?_, ?_⟩
    · simpa [rowNet, offerSign] using netSign_is s.params.signPrecedence (rowGet s.plus r)
        (newFlag s.params.signFlagMode (rowGet s.minus r) sb) (rowGet s.sout r) .minus sb
    · intro h
      rw [rowSet_rowGet_self]
      exact commandSign_keep r _ _ h
    · intro h
      rw [rowSet_rowGet_self]
      exact commandSign_change r _ (offerSign r .minus sb s) h

/-! ## Lamps -/

theorem lampStep_l12 (b : LampBit) (v : Bool) (s : State) (q : LampBit) :
    lampGet (lampStep b v s).l12 q = if q = b then v else lampGet s.l12 q := by
  unfold lampStep
  split
  · next h => split <;> simp_all
  · simp

theorem lampStep_emitsAll (b : LampBit) (v : Bool) (s : State) :
    EmitsAll (if v = lampGet s.l12 b then []
      else [(Role.indicator, LAMP s.params (lampGet s.params.lamp12Map b) v)]) s (lampStep b v s) := by
  unfold lampStep
  split
  · exact emitsAll_nil s
  · rw [encodeLamp_eq]
    exact emit_emitsAll _ _ { s with l12 := lampSet s.l12 b v }

/-- LAMP12_UPDATE over any list of distinct lamp bits. -/
theorem lampFold_spec (bit : LampBit → Bool) (bs : List LampBit) (hd : bs.Nodup) (s t : State)
    (ht : t = bs.foldl (fun u b => lampStep b (bit b) u) s) :
    t = { s with l12 := t.l12, out := t.out, cond := t.cond } ∧
    (∀ q, lampGet t.l12 q = if q ∈ bs then bit q else lampGet s.l12 q) ∧
    EmitsAll (bs.filterMap fun b => if bit b = lampGet s.l12 b then none
      else some (.indicator, LAMP s.params (lampGet s.params.lamp12Map b) (bit b))) s t := by
  induction bs generalizing s with
  | nil => subst ht; exact ⟨rfl, by simp, emitsAll_nil _⟩
  | cons b bs ih =>
    obtain ⟨hb, hbs⟩ := List.nodup_cons.mp hd
    obtain ⟨h1, h2, h3⟩ := ih hbs (lampStep b (bit b) s) ht
    refine ⟨?_, ?_, ?_⟩
    · rw [h1]; simp
    · intro q
      rw [h2 q, lampStep_l12]
      by_cases hq : q ∈ bs
      · simp [hq]
      · by_cases e : q = b
        · simp [e]
        · simp [hq, e]
    · have he : ∀ c ∈ bs, lampGet (lampStep b (bit b) s).l12 c = lampGet s.l12 c := by
        intro c hc
        rw [lampStep_l12, if_neg]
        rintro rfl
        exact hb hc
      have hstep := EmitsAll.trans (lampStep_emitsAll b (bit b) s) (by simp) h3
      convert hstep using 1
      rw [List.filterMap_cons]
      have htail : (bs.filterMap fun c => if bit c = lampGet s.l12 c then none
          else some (Role.indicator, LAMP s.params (lampGet s.params.lamp12Map c) (bit c))) =
          bs.filterMap fun c => if bit c = lampGet (lampStep b (bit b) s).l12 c then none
          else some (.indicator, LAMP (lampStep b (bit b) s).params
            (lampGet (lampStep b (bit b) s).params.lamp12Map c) (bit c)) := by
        apply List.filterMap_congr
        intro c hc
        rw [he c hc, lampStep_params]
      rw [htail]
      by_cases e : bit b = lampGet s.l12 b <;> simp [e]

theorem lamp12Update_step (bit : LampBit → Bool) (s : State) : LampsStep bit s (lamp12Update bit s) := by
  obtain ⟨h1, h2, h3⟩ := lampFold_spec bit lampBits (by decide) s (lamp12Update bit s) rfl
  exact ⟨h1, fun b => by rw [h2 b, if_pos (by cases b <;> decide)], h3⟩

/-! ## The tracker -/

theorem trackerCommand_emitsAll (p : Params) (k : RegBit) (v : Bool) (s : State) (hp : s.params = p) :
    EmitsAll (trackerCmd p k v).toList s (trackerCommand p.ch11Map[k] v s) := by
  subst hp
  unfold trackerCmd
  generalize s.params.ch11Map[k] = e
  match e with
  | none => exact emitsAll_nil s
  | some (.lamp n) =>
    simp only [trackerCommand, encodeLamp_eq]
    exact emit_emitsAll _ _ s
  | some .compActy =>
    simp only [trackerCommand, encodeActy_eq]
    exact emit_emitsAll _ _ s

theorem trkSetBit_s11 (k : RegBit) (v : Bool) (s : State) (j : RegBit) :
    getBit (trkSetBit k v s).s11 j = if j = k then v else getBit s.s11 j := by
  unfold trkSetBit
  split
  · next h => split <;> simp_all
  · have : (trackerCommand s.params.ch11Map[k] v { s with s11 := setBit s.s11 k v }).s11 = setBit s.s11 k v := by simp
    rw [this, getBit_setBit]

theorem trkSetBit_emitsAll (k : RegBit) (v : Bool) (s : State) :
    EmitsAll (if v = getBit s.s11 k then [] else (trackerCmd s.params k v).toList) s (trkSetBit k v s) := by
  unfold trkSetBit
  split
  · exact emitsAll_nil s
  · exact trackerCommand_emitsAll s.params k v { s with s11 := setBit s.s11 k v } rfl

theorem trkSetBit_step (k : RegBit) (v : Bool) (s : State) : TrackStep k v s (trkSetBit k v s) := by
  constructor
  · intro h; simp [trkSetBit, h]
  · intro h
    have he := trkSetBit_emitsAll k v s
    rw [if_neg h] at he
    refine ⟨?_, fun j => trkSetBit_s11 k v s j, he⟩
    apply State.ext <;> simp

/-- The strobe over any list of distinct register bits. -/
theorem strobeFold_spec (ks : List RegBit) (hd : ks.Nodup) (s t : State)
    (ht : t = ks.foldl (fun u k => trkSetBit k (getBit u.c11 k) u) s) :
    t = { s with s11 := t.s11, out := t.out, cond := t.cond } ∧
    (∀ j, getBit t.s11 j = if j ∈ ks then getBit s.c11 j else getBit s.s11 j) ∧
    EmitsAll (ks.filterMap fun k => if getBit s.c11 k = getBit s.s11 k then none
      else trackerCmd s.params k (getBit s.c11 k)) s t := by
  induction ks generalizing s with
  | nil => subst ht; exact ⟨rfl, by simp, emitsAll_nil _⟩
  | cons k ks ih =>
    obtain ⟨hk, hks⟩ := List.nodup_cons.mp hd
    obtain ⟨h1, h2, h3⟩ := ih hks (trkSetBit k (getBit s.c11 k) s) ht
    refine ⟨?_, ?_, ?_⟩
    · rw [h1]; simp
    · intro j
      rw [h2 j, trkSetBit_s11]
      by_cases hj : j ∈ ks
      · simp [hj]
      · by_cases e : j = k
        · simp [e]
        · simp [hj, e]
    · have he : ∀ c ∈ ks, getBit (trkSetBit k (getBit s.c11 k) s).s11 c = getBit s.s11 c := by
        intro c hc
        rw [trkSetBit_s11, if_neg]
        rintro rfl
        exact hk hc
      have hstep := EmitsAll.trans (trkSetBit_emitsAll k (getBit s.c11 k) s) (by simp) h3
      convert hstep using 1
      have htail : (ks.filterMap fun c => if getBit s.c11 c = getBit s.s11 c then none
          else trackerCmd s.params c (getBit s.c11 c)) =
          ks.filterMap fun c => if getBit (trkSetBit k (getBit s.c11 k) s).c11 c =
              getBit (trkSetBit k (getBit s.c11 k) s).s11 c then none
          else trackerCmd (trkSetBit k (getBit s.c11 k) s).params c (getBit (trkSetBit k (getBit s.c11 k) s).c11 c) := by
        apply List.filterMap_congr
        intro c hc
        rw [he c hc, trkSetBit_params, trkSetBit_c11]
      rw [List.filterMap_cons, htail]
      by_cases e : getBit s.c11 k = getBit s.s11 k
      · simp [e]
      · cases hcmd : trackerCmd s.params k (getBit s.c11 k) <;> simp [e]

theorem presentAll_step (s : State) : StrobeStep s (presentAll s) := by
  obtain ⟨h1, h2, h3⟩ := strobeFold_spec allRegBits (by decide) s (presentAll s) rfl
  have hs : (presentAll s).s11 = s.c11 := by
    apply chanWord_ext
    intro k
    rw [h2 k, if_pos (by revert k; decide)]
  refine ⟨?_, h3⟩
  rw [hs] at h1
  exact h1

/-- Presenting bits that the tracker already stores changes nothing. -/
theorem presentAll_of_eq (s : State) (h : s.c11 = s.s11) : presentAll s = s := by
  have hs : ∀ k, trkSetBit k (getBit s.c11 k) s = s := fun k => by simp [trkSetBit, h]
  unfold presentAll
  generalize allRegBits = l
  induction l with
  | nil => rfl
  | cons k l ih => rw [List.foldl_cons, hs]; exact ih

/-- Lamps that already hold their bits stay silent. -/
theorem lamp12Update_of_eq (bit : LampBit → Bool) (s : State) (h : ∀ b, lampGet s.l12 b = bit b) :
    lamp12Update bit s = s := by
  have hs : ∀ b, lampStep b (bit b) s = s := fun b => by simp [lampStep, h]
  unfold lamp12Update
  generalize lampBits = l
  induction l with
  | nil => rfl
  | cons b l ih => rw [List.foldl_cons, hs]; exact ih

/-! ## Dispatch -/

/-- Case split on a relay word. -/
theorem relayWord_cases (x : BitVec 4) : x = 0 ∨ x = 1 ∨ x = 2 ∨ x = 3 ∨ x = 4 ∨ x = 5 ∨ x = 6 ∨ x = 7 ∨ x = 8 ∨ x = 9 ∨
    x = 10 ∨ x = 11 ∨ x = 12 ∨ x = 13 ∨ x = 14 ∨ x = 15 := by revert x; decide

/-- Case split on a marker. -/
theorem marker_cases (x : BitVec 2) : x = 0 ∨ x = 1 ∨ x = 2 ∨ x = 3 := by revert x; decide

theorem dispatchRelay_eq_exec (rw : BitVec 4) (sb : Bool) (up lo : BitVec 5) (s : State) :
    dispatchRelay rw sb up lo s = exec (relayInstr rw sb up lo) s := by
  rcases relayWord_cases rw with h | h | h | h | h | h | h | h | h | h | h | h | h | h | h | h <;> subst h <;> rfl

theorem apply_eq_exec (s : State) : apply s = exec (decodeWord s.c10) s := dispatchRelay_eq_exec _ _ _ _ s

theorem execByteIn_eq_exec (b : Byte) (s : State) : execByteIn b s = exec (decodeByte b) s := by
  unfold execByteIn decodeByte
  rcases marker_cases (byteMarker b) with h | h | h | h <;> rw [h] <;> rfl

/-- FRAME_DISPATCH (R85, R86). -/
theorem frameDispatch_dispatched (ch : BitVec 7) (d : BitVec 15) (s : State) :
    Dispatched ch d s (frameDispatch ch d s) := by
  unfold frameDispatch
  refine ⟨fun h => ?_, fun h => ?_, fun h => ?_, fun h1 h2 h3 => ?_⟩
  · rw [if_pos h]; rfl
  · subst h; rfl
  · subst h; exact ⟨_, rfl, lamp12Update_step _ _⟩
  · rw [if_neg h1, if_neg h2, if_neg h3]

/-- A mismatched end of frame (R84), by `P3_MISMATCH`. -/
theorem frameEndMismatched_spec (s : State) :
    (s.params.p3Mismatch = .yieldPair → Dispatched s.fchan s.fdata (parserClear s) (frameEndMismatched s)) ∧
    (s.params.p3Mismatch = .dropFrame → frameEndMismatched s = .next (parserClear s)) := by
  constructor <;> intro h <;> unfold frameEndMismatched <;> rw [h]
  · exact frameDispatch_dispatched _ _ (clearParser s)
  · rfl

/-! ## Steps and runs -/

/-- What a step can do: nothing is pending; or the next record runs its instruction; or it is refused. -/
theorem step_cases {s t : State} (h : step s = .next t) :
    (s.input = [] ∧ t = s) ∨
    ∃ r rest, s.input = r :: rest ∧
      ((∃ i, decodeRecord r = .ok i ∧ exec i { s with input := rest } = .next t) ∨
       ((∃ e, decodeRecord r = .error e) ∧ t = refuse .malformedRecord { s with input := rest })) := by
  unfold step takeInput at h
  cases hi : s.input with
  | nil =>
    simp only [hi] at h
    injection h with h
    exact .inl ⟨rfl, h.symm⟩
  | cons r rest =>
    simp only [hi] at h
    refine .inr ⟨r, rest, rfl, ?_⟩
    cases hd : decodeRecord r with
    | ok i => rw [hd] at h; exact .inl ⟨i, rfl, h⟩
    | error e =>
      rw [hd] at h
      injection h with h
      exact .inr ⟨⟨e, rfl⟩, h.symm⟩

theorem hostRun_succ (m : Host.Core) (n : Nat) (s t : m.State) (h : m.step s = .next t) : m.run (n + 1) s = m.run n t := by
  rw [Host.Core.run, h]

theorem run_zero (s : State) : run 0 s = .next s := rfl

theorem run_succ {n : Nat} {s t : State} (h : step s = .next t) : run (n + 1) s = run n t :=
  hostRun_succ Sys2Proof.core n s t h

end Sys2Proof.Machine
end

