-- ==== Sys2Proof/Laws/Effects.lean ====
section
/-! SUPPORT. Said once: every instruction is a chain of the shared operations. An invariant that each shared operation
keeps is kept by `exec`, without unfolding a meaning. -/

namespace Sys2Proof.Machine

open Sys2Proof.Safety

/-- What an instruction other than TRANSPORT_STATUS can do to a state, in order: writes of the two registers and of the
parser, the shared operations of the display decoder and the tracker, RESET, an appended condition, an appended refusal,
sent bytes. -/
inductive Does : State → State → Prop
  | refl (s : State) : Does s s
  | trans {s t u : State} : Does s t → Does t u → Does s u
  | plain (s : State) (c10 c11 : ChanWord) (fpos : FramePos) (fchan : BitVec 7) (fdata : BitVec 15) :
      Does s { s with c10 := c10, c11 := c11, fpos := fpos, fchan := fchan, fdata := fdata }
  | digit (f : DigitField) (p : BitVec 5) (s : State) : Does s (digitUpdate f p s)
  | sign (r : Row) (w : SignFlag) (sb : Bool) (s : State) : Does s (signUpdate r w sb s)
  | lamp (b : LampBit) (v : Bool) (s : State) : Does s (lampStep b v s)
  | bit (k : RegBit) (v : Bool) (s : State) : Does s (trkSetBit k v s)
  | reset {s t : State} : exec .reset s = .next t → Does s t
  | report (c : Condition) (s : State) : Does s (report c s)
  | refuse (r : RefusalReason) (s : State) : Does s (refuse r s)
  | send (b : Bytes) (s : State) : Does s (send b s)

theorem lamp12Update_does (bit : LampBit → Bool) (s : State) : Does s (lamp12Update bit s) := by
  unfold lamp12Update
  generalize lampBits = l
  induction l generalizing s with
  | nil => exact .refl s
  | cons b l ih => exact .trans (.lamp b (bit b) s) (ih _)

theorem presentAll_does (s : State) : Does s (presentAll s) := by
  unfold presentAll
  generalize allRegBits = l
  induction l generalizing s with
  | nil => exact .refl s
  | cons k l ih => exact .trans (.bit k _ s) (ih _)

theorem trkSetIndexed_does (i : BitVec 4) (v : Bool) (s : State) : Does s (trkSetIndexed i v s) := by
  unfold trkSetIndexed
  split
  · exact .refl s
  · exact .bit _ _ s

theorem dispatchRelay_does {rw : BitVec 4} {sb : Bool} {up lo : BitVec 5} {s t : State}
    (h : dispatchRelay rw sb up lo s = .next t) : Does s t := by
  rcases relayWord_cases rw with e | e | e | e | e | e | e | e | e | e | e | e | e | e | e | e <;> subst e <;>
    (change Host.Outcome.next _ = _ at h; injection h with h; subst h) <;>
    first
    | exact .refl _
    | exact .trans (.trans (.digit _ _ _) (.digit _ _ _)) (.sign _ _ _ _)
    | exact .trans (.digit _ _ _) (.digit _ _ _)
    | exact .digit _ _ _
    | exact lamp12Update_does _ _
    | exact .report _ _

theorem frameDispatch_does {ch : BitVec 7} {d : BitVec 15} {s t : State} (h : frameDispatch ch d s = .next t) :
    Does s t := by
  unfold frameDispatch at h
  split at h
  · exact .trans (.plain s d s.c11 s.fpos s.fchan s.fdata) (dispatchRelay_does h)
  · split at h
    · injection h with h
      subst h
      exact .trans (.plain s s.c10 d s.fpos s.fchan s.fdata) (presentAll_does _)
    · split at h <;> injection h with h <;> subst h
      · exact lamp12Update_does _ _
      · exact .refl s

theorem clearParser_does (s : State) : Does s (clearParser s) := .plain s s.c10 s.c11 .p0 0 0

theorem frameEndMatched_does {a : BitVec 6} {s t : State} (h : frameEndMatched a s = .next t) : Does s t :=
  .trans (clearParser_does s) (frameDispatch_does h)

theorem frameEndMismatched_does {s t : State} (h : frameEndMismatched s = .next t) : Does s t := by
  unfold frameEndMismatched at h
  split at h
  · exact .trans (clearParser_does s) (frameDispatch_does h)
  · injection h with h
    subst h
    exact clearParser_does s

theorem execFrameB0_does {a : BitVec 2} {b : BitVec 4} {s t : State} (h : execFrameB0 a b s = .next t) : Does s t := by
  unfold execFrameB0 at h
  split at h <;> first | exact frameEndMismatched_does h | (injection h with h; subst h; exact .plain _ _ _ _ _ _)

theorem execFrameB1_does {a b : BitVec 3} {s t : State} (h : execFrameB1 a b s = .next t) : Does s t := by
  unfold execFrameB1 at h
  split at h <;> first | exact frameEndMismatched_does h | (injection h with h; subst h; exact .plain _ _ _ _ _ _)

theorem execFrameB2_does {a : BitVec 6} {s t : State} (h : execFrameB2 a s = .next t) : Does s t := by
  unfold execFrameB2 at h
  split at h <;> first | exact frameEndMismatched_does h | (injection h with h; subst h; exact .plain _ _ _ _ _ _)

theorem execFrameB3_does {a : BitVec 6} {s t : State} (h : execFrameB3 a s = .next t) : Does s t := by
  unfold execFrameB3 at h
  split at h <;> first | exact frameEndMatched_does h | (injection h with h; subst h; exact .plain _ _ _ _ _ _)

theorem execByteIn_does {b : Byte} {s t : State} (h : execByteIn b s = .next t) : Does s t := by
  unfold execByteIn at h
  split at h
  · exact execFrameB0_does h
  · exact execFrameB1_does h
  · exact execFrameB2_does h
  · exact execFrameB3_does h

theorem execKeyIn_does {k : BitVec 16} {s t : State} (h : execKeyIn k s = .next t) : Does s t := by
  unfold execKeyIn at h
  split at h <;> injection h with h <;> subst h
  · exact .send _ _
  · exact .refuse _ _

/-- TRANSPORT_STATUS (R95) sets one connection flag or is refused. -/
theorem execTransportStatus_cases {role : BitVec 4} {up : Bool} {s t : State}
    (h : execTransportStatus role up s = .next t) :
    (∃ r, roleOf role = some r ∧ t = { s with conn := roleSet s.conn r up }) ∨ t = refuse .malformedRecord s := by
  unfold execTransportStatus at h
  split at h
  · next r hr => injection h with h; exact .inl ⟨r, hr, h.symm⟩
  · injection h with h; exact .inr h.symm

/-- Every instruction is a chain of shared operations, or it is TRANSPORT_STATUS. -/
theorem exec_does {i : Instr} {s t : State} (h : exec i s = .next t) :
    Does s t ∨ ∃ r up, t = { s with conn := roleSet s.conn r up } := by
  cases i with
  | transportStatus role up =>
    rcases execTransportStatus_cases h with ⟨r, _, e⟩ | e
    · exact .inr ⟨r, up, e⟩
    · exact .inl (e ▸ .refuse _ _)
  | byteIn b => exact .inl (execByteIn_does h)
  | frameB0 a b => exact .inl (execFrameB0_does (a := a) h)
  | frameB1 a b => exact .inl (execFrameB1_does h)
  | frameB2 a => exact .inl (execFrameB2_does h)
  | frameB3 a => exact .inl (execFrameB3_does h)
  | keyIn k => exact .inl (execKeyIn_does h)
  | reset => exact .inl (.reset h)
  | dispStrobe => exact .inl (dispatchRelay_does h)
  | rw0 sb up lo => exact .inl (dispatchRelay_does (rw := 0) (sb := sb) (up := up) (lo := lo) h)
  | rw1 sb up lo => exact .inl (dispatchRelay_does (rw := 1) (sb := sb) (up := up) (lo := lo) h)
  | rw2 sb up lo => exact .inl (dispatchRelay_does (rw := 2) (sb := sb) (up := up) (lo := lo) h)
  | rw3 sb up lo => exact .inl (dispatchRelay_does (rw := 3) (sb := sb) (up := up) (lo := lo) h)
  | rw4 sb up lo => exact .inl (dispatchRelay_does (rw := 4) (sb := sb) (up := up) (lo := lo) h)
  | rw5 sb up lo => exact .inl (dispatchRelay_does (rw := 5) (sb := sb) (up := up) (lo := lo) h)
  | rw6 sb up lo => exact .inl (dispatchRelay_does (rw := 6) (sb := sb) (up := up) (lo := lo) h)
  | rw7 sb up lo => exact .inl (dispatchRelay_does (rw := 7) (sb := sb) (up := up) (lo := lo) h)
  | rw8 sb up lo => exact .inl (dispatchRelay_does (rw := 8) (sb := sb) (up := up) (lo := lo) h)
  | rw9 sb up lo => exact .inl (dispatchRelay_does (rw := 9) (sb := sb) (up := up) (lo := lo) h)
  | rw10 sb up lo => exact .inl (dispatchRelay_does (rw := 10) (sb := sb) (up := up) (lo := lo) h)
  | rw11 sb up lo => exact .inl (dispatchRelay_does (rw := 11) (sb := sb) (up := up) (lo := lo) h)
  | rw12 sb up lo => exact .inl (dispatchRelay_does (rw := 12) (sb := sb) (up := up) (lo := lo) h)
  | rw13 sb up lo => exact .inl (dispatchRelay_does (rw := 13) (sb := sb) (up := up) (lo := lo) h)
  | rw14 sb up lo => exact .inl (dispatchRelay_does (rw := 14) (sb := sb) (up := up) (lo := lo) h)
  | rw15 sb up lo => exact .inl (dispatchRelay_does (rw := 15) (sb := sb) (up := up) (lo := lo) h)
  | indcStrobe =>
    change Host.Outcome.next _ = _ at h
    injection h with h
    exact .inl (h ▸ presentAll_does s)
  | trackerSetBit k v =>
    change Host.Outcome.next _ = _ at h
    injection h with h
    exact .inl (h ▸ trkSetIndexed_does k v s)
  | ch10SetBit k v =>
    change Host.Outcome.next _ = _ at h
    injection h with h
    exact .inl (h ▸ .plain s _ s.c11 s.fpos s.fchan s.fdata)
  | ch10Write w =>
    change Host.Outcome.next _ = _ at h
    injection h with h
    exact .inl (h ▸ .plain s _ s.c11 s.fpos s.fchan s.fdata)
  | ch11SetBit k v =>
    change Host.Outcome.next _ = _ at h
    injection h with h
    exact .inl (h ▸ .plain s s.c10 _ s.fpos s.fchan s.fdata)
  | ch11Write w =>
    change Host.Outcome.next _ = _ at h
    injection h with h
    exact .inl (h ▸ .plain s s.c10 _ s.fpos s.fchan s.fdata)
  | unassigned0 rest | unassignedF rest | standby | keyboardStrobe | proceed =>
    change Host.Outcome.next _ = _ at h
    injection h with h
    exact .inl (h ▸ .refuse _ s)

end Sys2Proof.Machine
end

