-- ==== Sys2Proof/Laws/PerInstr.lean ====
section
/-! SUPPORT. Statements made per instruction. Family `DecodeEncode`: decoding the encoding of a well-formed
instruction gives it back. -/

namespace Sys2Proof

/-! ## Records -/

theorem decodeRecord_packOp (tag idx : BitVec 4) (arg : BitVec 16) :
    decodeRecord (packOp tag idx arg) = decodeTag tag idx arg (recRest (packOp tag idx arg)) := by
  unfold decodeRecord packOp
  rw [recTag_packRecord, recRsv_packRecord, recIdx_packRecord, recArg_packRecord]
  simp

theorem flagArg_high (v : Bool) : (flagArg v).extractLsb' 1 15 = 0 := by cases v <;> decide

theorem flagArg_low (v : Bool) : (flagArg v).getLsbD 0 = v := by cases v <;> decide

theorem decodeSetBit_flagArg (mk : BitVec 4 → Bool → Instr) (i : BitVec 4) (v : Bool) :
    decodeSetBit mk i (flagArg v) = .ok (mk i v) := by
  rw [decodeSetBit, flagArg_high, flagArg_low, if_pos rfl]

theorem decodeBare_zero (i : Instr) : decodeBare i 0 0 = .ok i := rfl

theorem byteArg_high (b : Byte) : (0#8 ++ b : BitVec 16).extractLsb' 8 8 = 0 :=
  BitVec.extractLsb'_append_eq_left (w' := 8) (a := 0#8)

theorem byteArg_low (b : Byte) : (0#8 ++ b : BitVec 16).extractLsb' 0 8 = b :=
  BitVec.extractLsb'_append_eq_right (b := b)

/-! ## Words and bytes -/

theorem decodeWord_packWord (rw : BitVec 4) (sb : Bool) (up lo : BitVec 5) :
    decodeWord (packWord rw sb up lo) = relayInstr rw sb up lo := by
  rw [decodeWord, wordRw_packWord, wordSb_packWord, wordUp_packWord, wordLo_packWord]

end Sys2Proof

namespace Sys2Proof.Laws.DecodeEncode

/-- Decoding the encoding gives the instruction back, if it is well formed. -/
def Statement (i : Instr) : Prop := i.wellFormed = true → decode (encode i) = .ok i

theorem unassigned0 (rest : BitVec 28) : Statement (.unassigned0 rest) := fun _ => by
  simp only [encode, decode, decodeRecord, recTag_tagged, recRest_tagged]
  exact if_neg (fun h => absurd h.2 (by decide))

theorem unassignedF (rest : BitVec 28) : Statement (.unassignedF rest) := fun _ => by
  simp only [encode, decode, decodeRecord, recTag_tagged, recRest_tagged]
  exact if_neg (fun h => absurd h.2 (by decide))

theorem ch10SetBit (i : BitVec 4) (v : Bool) : Statement (.ch10SetBit i v) := fun _ =>
  (decodeRecord_packOp _ i _).trans (decodeSetBit_flagArg .ch10SetBit i v)

theorem ch11SetBit (i : BitVec 4) (v : Bool) : Statement (.ch11SetBit i v) := fun _ =>
  (decodeRecord_packOp _ i _).trans (decodeSetBit_flagArg .ch11SetBit i v)

theorem trackerSetBit (i : BitVec 4) (v : Bool) : Statement (.trackerSetBit i v) := fun _ =>
  (decodeRecord_packOp _ i _).trans (decodeSetBit_flagArg .trackerSetBit i v)

theorem ch10Write (w : BitVec 16) : Statement (.ch10Write w) := fun _ => decodeRecord_packOp _ 0 w

theorem ch11Write (w : BitVec 16) : Statement (.ch11Write w) := fun _ => decodeRecord_packOp _ 0 w

theorem dispStrobe : Statement .dispStrobe := fun _ => rfl

theorem indcStrobe : Statement .indcStrobe := fun _ => rfl

theorem reset : Statement .reset := fun _ => rfl

theorem standby : Statement .standby := fun _ => rfl

theorem keyboardStrobe : Statement .keyboardStrobe := fun _ => rfl

theorem proceed : Statement .proceed := fun _ => rfl

theorem byteIn (b : Byte) : Statement (.byteIn b) := fun _ => by
  refine (decodeRecord_packOp 0x8 0 (0#8 ++ b : BitVec 16)).trans ?_
  change decodeByteIn 0 (0#8 ++ b : BitVec 16) = _
  rw [decodeByteIn, byteArg_high, byteArg_low]
  rfl

theorem keyIn (k : BitVec 16) : Statement (.keyIn k) := fun h => by
  refine (decodeRecord_packOp 0x9 0 k).trans ?_
  change decodeKeyIn 0 k = _
  have h' : keyCodeOk k = true := h
  simp [decodeKeyIn, h']

theorem transportStatus (role : BitVec 4) (up : Bool) : Statement (.transportStatus role up) := fun h => by
  refine (decodeRecord_packOp 0xB role (flagArg up)).trans ?_
  change decodeTransport role (flagArg up) = _
  have h' : roleFieldOk role = true := h
  rw [decodeTransport, flagArg_high, flagArg_low, h']
  rfl

theorem rw0 (sb : Bool) (up lo : BitVec 5) : Statement (.rw0 sb up lo) := fun _ =>
  congrArg Except.ok (decodeWord_packWord 0 sb up lo)

theorem rw1 (sb : Bool) (up lo : BitVec 5) : Statement (.rw1 sb up lo) := fun _ =>
  congrArg Except.ok (decodeWord_packWord 1 sb up lo)

theorem rw2 (sb : Bool) (up lo : BitVec 5) : Statement (.rw2 sb up lo) := fun _ =>
  congrArg Except.ok (decodeWord_packWord 2 sb up lo)

theorem rw3 (sb : Bool) (up lo : BitVec 5) : Statement (.rw3 sb up lo) := fun _ =>
  congrArg Except.ok (decodeWord_packWord 3 sb up lo)

theorem rw4 (sb : Bool) (up lo : BitVec 5) : Statement (.rw4 sb up lo) := fun _ =>
  congrArg Except.ok (decodeWord_packWord 4 sb up lo)

theorem rw5 (sb : Bool) (up lo : BitVec 5) : Statement (.rw5 sb up lo) := fun _ =>
  congrArg Except.ok (decodeWord_packWord 5 sb up lo)

theorem rw6 (sb : Bool) (up lo : BitVec 5) : Statement (.rw6 sb up lo) := fun _ =>
  congrArg Except.ok (decodeWord_packWord 6 sb up lo)

theorem rw7 (sb : Bool) (up lo : BitVec 5) : Statement (.rw7 sb up lo) := fun _ =>
  congrArg Except.ok (decodeWord_packWord 7 sb up lo)

theorem rw8 (sb : Bool) (up lo : BitVec 5) : Statement (.rw8 sb up lo) := fun _ =>
  congrArg Except.ok (decodeWord_packWord 8 sb up lo)

theorem rw9 (sb : Bool) (up lo : BitVec 5) : Statement (.rw9 sb up lo) := fun _ =>
  congrArg Except.ok (decodeWord_packWord 9 sb up lo)

theorem rw10 (sb : Bool) (up lo : BitVec 5) : Statement (.rw10 sb up lo) := fun _ =>
  congrArg Except.ok (decodeWord_packWord 10 sb up lo)

theorem rw11 (sb : Bool) (up lo : BitVec 5) : Statement (.rw11 sb up lo) := fun _ =>
  congrArg Except.ok (decodeWord_packWord 11 sb up lo)

theorem rw12 (sb : Bool) (up lo : BitVec 5) : Statement (.rw12 sb up lo) := fun _ =>
  congrArg Except.ok (decodeWord_packWord 12 sb up lo)

theorem rw13 (sb : Bool) (up lo : BitVec 5) : Statement (.rw13 sb up lo) := fun _ =>
  congrArg Except.ok (decodeWord_packWord 13 sb up lo)

theorem rw14 (sb : Bool) (up lo : BitVec 5) : Statement (.rw14 sb up lo) := fun _ =>
  congrArg Except.ok (decodeWord_packWord 14 sb up lo)

theorem rw15 (sb : Bool) (up lo : BitVec 5) : Statement (.rw15 sb up lo) := fun _ =>
  congrArg Except.ok (decodeWord_packWord 15 sb up lo)

theorem frameB0 (ign : BitVec 2) (chHi : BitVec 4) : Statement (.frameB0 ign chHi) := fun _ => by
  revert ign chHi; decide

theorem frameB1 (chLo dHi : BitVec 3) : Statement (.frameB1 chLo dHi) := fun _ => by
  revert chLo dHi; decide

theorem frameB2 (dMid : BitVec 6) : Statement (.frameB2 dMid) := fun _ => by
  revert dMid; decide

theorem frameB3 (dLo : BitVec 6) : Statement (.frameB3 dLo) := fun _ => by
  revert dLo; decide

end Sys2Proof.Laws.DecodeEncode
end

