-- ==== Sys2Proof/Tests/Slice0.lean ====
section
/-! SUPPORT. The model's own tests, and a witness for the hypotheses of every statement that has some. Expected values
are the spec's: its encodings (30_encoding.md) and its vectors (95_test_vectors.md; `testParams` is the default
parameters with that file's section 0 codes). Each docstring names the vector. -/

namespace Sys2Proof.Tests

open Sys2Proof.Machine Sys2Proof.Safety

/-- The defaults of R7 with the test codes of 95_test_vectors.md section 0. -/
def testParams : Params := defaultParams (codesFrom fixtureCode)

/-- Power-on. -/
def power : State := State.powerOn testParams

/-- The next state, if there is one. -/
def nextOf (o : Result) : Option State :=
  match o with
  | .next t => some t
  | .fault _ => none
  | .refused _ => none

/-- What an instruction makes of a state. -/
def after (i : Instr) (s : State) : Option State := nextOf (exec i s)

/-- What a Channel-10 word shows of the DISPLAY from a state. -/
def shown (w : ChanWord) (s : State) : Option (List Bytes) := (after (decodeWord w) s).map (·.out.display)

/-! ## Well-formedness (R49, R100) -/

theorem test_wf_refuses_wide_key_code : (Instr.keyIn 0x8000).wellFormed = false := by decide
theorem test_wf_allows_key_code : (Instr.keyIn 0x7FFF).wellFormed = true := by decide
theorem test_wf_refuses_role_two : (Instr.transportStatus 2 true).wellFormed = false := by decide
theorem test_wf_allows_role_one : (Instr.transportStatus 1 true).wellFormed = true := by decide

/-! ## Decoding: words written out bit by bit from 30_encoding.md R38, R44, R48, R49 -/

theorem test_decode_ch10SetBit : decodeRecord 0b0001_00000000_1100_0000000000000001#32 = .ok (.ch10SetBit 12 true) := by decide
theorem test_decode_ch10Write : decodeRecord 0b0010_00000000_0000_1101101110111101#32 = .ok (.ch10Write 0xDBBD) := by decide
theorem test_decode_dispStrobe : decodeRecord 0b0011_00000000_0000_0000000000000000#32 = .ok .dispStrobe := by decide
theorem test_decode_ch11SetBit : decodeRecord 0b0100_00000000_0111_0000000000000000#32 = .ok (.ch11SetBit 7 false) := by decide
theorem test_decode_ch11Write : decodeRecord 0b0101_00000000_0000_1000000000000001#32 = .ok (.ch11Write 0x8001) := by decide
theorem test_decode_indcStrobe : decodeRecord 0b0110_00000000_0000_0000000000000000#32 = .ok .indcStrobe := by decide
theorem test_decode_trackerSetBit : decodeRecord 0b0111_00000000_0100_0000000000000001#32 = .ok (.trackerSetBit 4 true) := by decide
theorem test_decode_byteIn : decodeRecord 0b1000_00000000_0000_0000000011111101#32 = .ok (.byteIn 0xFD) := by decide
theorem test_decode_keyIn : decodeRecord 0b1001_00000000_0000_0111111111111111#32 = .ok (.keyIn 0x7FFF) := by decide
theorem test_decode_reset : decodeRecord 0b1010_00000000_0000_0000000000000000#32 = .ok .reset := by decide
theorem test_decode_transportStatus : decodeRecord 0b1011_00000000_0001_0000000000000001#32 = .ok (.transportStatus 1 true) := by decide
theorem test_decode_standby : decodeRecord 0b1100_00000000_0000_0000000000000000#32 = .ok .standby := by decide
theorem test_decode_keyboardStrobe : decodeRecord 0b1101_00000000_0000_0000000000000000#32 = .ok .keyboardStrobe := by decide
theorem test_decode_proceed : decodeRecord 0b1110_00000000_0000_0000000000000000#32 = .ok .proceed := by decide
theorem test_decode_unassigned : decodeRecord 0x0ABCDEF1#32 = .ok (.unassigned0 0xABCDEF1) ∧
    decodeRecord 0xF0000001#32 = .ok (.unassignedF 1) := by decide

/-- The reasons of R100, one record each (CR12, CR13, CR14, CR15, CR16, CR17, CR20). -/
theorem test_decode_malformed :
    decodeRecord 0x21005BBD#32 = .error .reservedNonZero ∧ decodeRecord 0x30010000#32 = .error .unnamedFieldNonZero ∧
    decodeRecord 0x10050002#32 = .error .unnamedFieldNonZero ∧ decodeRecord 0xB0020001#32 = .error .roleOutOfRange ∧
    decodeRecord 0x90008000#32 = .error .keyCodeTooWide ∧ decodeRecord 0x80000141#32 = .error .unnamedFieldNonZero ∧
    decodeRecord 0xA0000001#32 = .error .unnamedFieldNonZero := by decide

/-- Sixteen words, one per relay word: `rw`, `sb`, `up`, `lo`. -/
theorem test_decode_relay_words :
    decodeWord 0b0000_0_11101_11101#15 = .rw0 false 29 29 ∧ decodeWord 0b0001_1_00011_11001#15 = .rw1 true 3 25 ∧
    decodeWord 0b0010_1_11011_01111#15 = .rw2 true 27 15 ∧ decodeWord 0b0011_1_11110_11100#15 = .rw3 true 30 28 ∧
    decodeWord 0b0100_0_10011_11101#15 = .rw4 false 19 29 ∧ decodeWord 0b0101_1_11111_10101#15 = .rw5 true 31 21 ∧
    decodeWord 0b0110_1_00000_11110#15 = .rw6 true 0 30 ∧ decodeWord 0b0111_1_11101_11011#15 = .rw7 true 29 27 ∧
    decodeWord 0b1000_1_11111_01111#15 = .rw8 true 31 15 ∧ decodeWord 0b1001_0_00011_11100#15 = .rw9 false 3 28 ∧
    decodeWord 0b1010_0_11011_10011#15 = .rw10 false 27 19 ∧ decodeWord 0b1011_0_11101_11101#15 = .rw11 false 29 29 ∧
    decodeWord 0b1100_0_01000_00100#15 = .rw12 false 8 4 ∧ decodeWord 0b1101_0_00011_00011#15 = .rw13 false 3 3 ∧
    decodeWord 0b1110_1_00001_00000#15 = .rw14 true 1 0 ∧ decodeWord 0b1111_0_00000_00001#15 = .rw15 false 0 1 := by decide

/-- The four markers; bits 5:4 of the first byte are ignored. -/
theorem test_decode_bytes :
    decodeByte 0b00_11_0001#8 = .frameB0 3 1 ∧ decodeByte 0b01_000_101#8 = .frameB1 0 5 ∧
    decodeByte 0b10_101110#8 = .frameB2 46 ∧ decodeByte 0b11_111101#8 = .frameB3 61 := by decide

/-- Each format through the host's decoder; a word with bit 15 set is no row's. -/
theorem test_decode_table_words :
    decodeTableWord 32 0x30000000 = some .dispStrobe ∧ decodeTableWord 16 0x5BBD = some (.rw11 false 29 29) ∧
    decodeTableWord 8 0xAE = some (.frameB2 46) ∧ decodeTableWord 16 0xDBBD = none ∧ decodeTableWord 32 0x30000001 = none := by
  decide

/-- A placed instruction is run by the next step, in each format. -/
theorem test_placed_instruction_runs :
    (nextOf (step (State.reset.withFetchWord 32 0x100F0001))).map (·.c10) = some 0x4000 ∧
    (nextOf (step (State.reset.withFetchWord 16 0x6863))).map (·.cond) = some [.invalidRelayWord 13] ∧
    (nextOf (step (State.reset.withFetchWord 8 0x01))).map (·.fchan) = some 8 := by decide

/-! ## Channel registers (CR1 to CR5) -/

/-- CR1 -/
theorem test_ch10SetBit : after (.ch10SetBit 15 true) power = some { power with c10 := 0x4000 } := by decide
/-- CR3, CR2 -/
theorem test_ch10SetBit_clears :
    after (.ch10SetBit 12 false) { power with c10 := 0x7FFF } = some { power with c10 := 0x77FF } ∧
    after (.ch10SetBit 0 true) power = some power := by decide
/-- CR4, CR21 -/
theorem test_ch10Write : after (.ch10Write 0xDBBD) power = some { power with c10 := 0x5BBD } ∧
    after (.ch10Write 0xFFFF) power = some { power with c10 := 0x7FFF } := by decide
/-- P3 step 4 -/
theorem test_ch11SetBit : after (.ch11SetBit 7 false) { power with c11 := 0x42 } = some { power with c11 := 2 } := by decide
/-- CR5 -/
theorem test_ch11Write : after (.ch11Write 0x8001) power = some { power with c11 := 1 } := by decide

/-! ## Display decoder (95_test_vectors.md 3.1, 3.2, 3.3) -/

/-- DISP_STROBE runs the word in `c10` (the word of W2). -/
theorem test_dispStrobe : (after .dispStrobe { power with c10 := 0x3FBB }).map (·.out.display) =
    some [[0x38, 0x20, 0x38], [0x39, 0x20, 0x33], [0x32, 0x32, 0x20, 0x32]] := by decide
/-- DD0 -/
theorem test_rw0 : after (decodeWord 0x03BD) power = some power := by decide
/-- DD1 -/
theorem test_rw1 : shown 0x0C79 power = some [[0x32, 0x30, 0x20, 0x31], [0x32, 0x31, 0x20, 0x32], [0x32, 0x34, 0x20, 0x31]] := by decide
/-- DD2 -/
theorem test_rw2 : shown 0x176F power = some [[0x31, 0x38, 0x20, 0x33], [0x31, 0x39, 0x20, 0x34], [0x32, 0x34, 0x20, 0x32]] := by decide
/-- DD3: the sign bit is set and no sign command follows. -/
theorem test_rw3 : shown 0x1FDC power = some [[0x31, 0x36, 0x20, 0x35], [0x31, 0x37, 0x20, 0x36]] := by decide
/-- DD4 -/
theorem test_rw4 : shown 0x227D power = some [[0x31, 0x34, 0x20, 0x37], [0x31, 0x35, 0x20, 0x38]] := by decide
/-- DD5 -/
theorem test_rw5 : shown 0x2FF5 power = some [[0x31, 0x32, 0x20, 0x39], [0x31, 0x33, 0x20, 0x30], [0x32, 0x33, 0x20, 0x32]] := by decide
/-- DD6: a blank digit is a space. -/
theorem test_rw6 : shown 0x341E power = some [[0x31, 0x30, 0x20, 0x20], [0x31, 0x31, 0x20, 0x35], [0x32, 0x32, 0x20, 0x31]] := by decide
/-- DD7 -/
theorem test_rw7 : shown 0x3FBB power = some [[0x38, 0x20, 0x38], [0x39, 0x20, 0x33], [0x32, 0x32, 0x20, 0x32]] := by decide
/-- DD8: the upper pattern is not read. -/
theorem test_rw8 : shown 0x47EF power = some [[0x37, 0x20, 0x34]] := by decide
/-- DD9, and the invalid pattern of R75's example. -/
theorem test_rw9 : shown 0x487C power = some [[0x35, 0x20, 0x31], [0x36, 0x20, 0x36]] ∧
    (after (decodeWord 0x483C) power).map (fun t => (t.out.display, t.cond)) =
      some ([[0x36, 0x20, 0x36]], [.invalidPattern .nd1 1]) := by decide
/-- DD10 -/
theorem test_rw10 : shown 0x5373 power = some [[0x33, 0x20, 0x33], [0x34, 0x20, 0x37]] := by decide
/-- DD11 -/
theorem test_rw11 : shown 0x5BBD power = some [[0x31, 0x20, 0x38], [0x32, 0x20, 0x38]] := by decide
/-- W3: VEL and PROG, in ascending bit order. -/
theorem test_rw12 : (after (decodeWord 0x6104) power).map (fun t => (t.out.indicator, t.l12)) =
    some ([[0x31, 0x20, 0x31], [0x36, 0x20, 0x31]],
      { b3 := true, b4 := false, b5 := false, b6 := false, b8 := false, b9 := true }) := by decide
/-- W3 again: nothing changed, nothing sent; and a lamp going off sends 0. -/
theorem test_rw12_edges :
    let s := { power with l12 := { b3 := true, b4 := false, b5 := false, b6 := false, b8 := false, b9 := true } }
    after (decodeWord 0x6104) s = some s ∧
    (after (decodeWord 0x6100) s).map (·.out.indicator) = some [[0x31, 0x20, 0x30]] := by decide
/-- DD13 to DD15 -/
theorem test_rw13 : after (decodeWord 0x6863) power = some { power with cond := [.invalidRelayWord 13] } := by decide
theorem test_rw14 : after (.rw14 true 1 0) power = some { power with cond := [.invalidRelayWord 14] } := by decide
theorem test_rw15 : after (.rw15 false 0 1) power = some { power with cond := [.invalidRelayWord 15] } := by decide

/-- One relay-word-6 or 7 word with blank patterns, from a row 1 with the given flags and net sign: the row after it,
and whether a sign command was sent. -/
def signAfter (mode : SignFlagMode) (prec : SignPrecedence) (p m : Bool) (sign : Sign) (w : ChanWord) :
    Option (Bool × Bool × Sign × Nat) :=
  (after (decodeWord w)
    { State.powerOn { testParams with signFlagMode := mode, signPrecedence := prec } with
      plus := { r1 := p, r2 := false, r3 := false }, minus := { r1 := m, r2 := false, r3 := false },
      sout := { r1 := sign, r2 := .blank, r3 := .blank } }).map
    fun t => (t.plus.r1, t.minus.r1, t.sout.r1, t.out.display.length - 2)

/-- S2, S3, S4 under FOLLOW / HOLD. -/
theorem test_sign_follow_hold : signAfter .follow .hold true false .plus 0x3400 = some (true, true, .plus, 0) ∧
    signAfter .follow .hold true true .plus 0x3800 = some (false, true, .minus, 1) ∧
    signAfter .follow .hold false true .minus 0x3000 = some (false, false, .blank, 1) := by decide
/-- S2, S7 under FOLLOW / MOST_RECENT. -/
theorem test_sign_follow_recent : signAfter .follow .mostRecent true false .plus 0x3400 = some (true, true, .minus, 1) ∧
    signAfter .follow .mostRecent true true .minus 0x3C00 = some (true, true, .plus, 1) := by decide
/-- S3, S4 under SET_ONLY / HOLD: a word with `sb = 0` clears nothing. -/
theorem test_sign_setOnly_hold : signAfter .setOnly .hold true true .plus 0x3800 = some (true, true, .plus, 0) ∧
    signAfter .setOnly .hold true true .plus 0x3000 = some (true, true, .plus, 0) := by decide
/-- S3, S5 under SET_ONLY / MOST_RECENT. -/
theorem test_sign_setOnly_recent : signAfter .setOnly .mostRecent true true .minus 0x3800 = some (true, true, .minus, 0) ∧
    signAfter .setOnly .mostRecent true true .minus 0x3C00 = some (true, true, .plus, 1) := by decide

/-! ## Indicator tracker (W4, P3) -/

/-- W4: TEMP on, once. -/
theorem test_trackerSetBit : (after (.trackerSetBit 4 true) power).map (fun t => (t.s11, t.out.indicator)) =
    some (8, [[0x38, 0x20, 0x31]]) ∧ after (.trackerSetBit 4 true) { power with s11 := 8 } = some { power with s11 := 8 } := by
  decide
set_option maxRecDepth 4000 in
/-- P3 step 2: COMP_ACTY to the display, OPR_ERR to the indicator. -/
theorem test_indcStrobe : (after .indcStrobe { power with c11 := 0x42 }).map (fun t => (t.s11, t.out)) =
    some (0x42, { display := [[0x32, 0x35, 0x20, 0x31]], indicator := [[0x31, 0x31, 0x20, 0x31]] }) := by decide
set_option maxRecDepth 4000 in
/-- P3 step 5: the dropped command still changes the stored bit. -/
theorem test_indcStrobe_dropped :
    (after .indcStrobe { power with c11 := 2, s11 := 0x42, conn := { display := true, indicator := false } }).map
      (fun t => (t.s11, t.out.indicator, t.cond)) = some (2, [], [.transportUnavailable .indicator]) := by decide

/-! ## Frames (W5, P4, key frame) -/

/-- P4 steps 1, 2, 5: the accumulator fills byte by byte. -/
theorem test_frameB0 : after (.frameB0 0 1) power = some { power with fpos := .p1, fchan := 8 } := by decide
theorem test_frameB1 : after (.frameB1 0 5) { power with fpos := .p1, fchan := 8 } =
    some { power with fpos := .p2, fchan := 8, fdata := 0x5000 } := by decide
theorem test_frameB2 : after (.frameB2 46) { power with fpos := .p2, fchan := 8, fdata := 0x5000 } =
    some { power with fpos := .p3, fchan := 8, fdata := 0x5B80 } := by decide
/-- P4 step 6 -/
theorem test_frameB3 : (after (.frameB3 61) { power with fpos := .p3, fchan := 8, fdata := 0x5B80 }).map
    (fun t => (t.c10, t.fpos, t.out.display)) = some (0x5BBD, .p0, [[0x31, 0x20, 0x38], [0x32, 0x20, 0x38]]) := by decide
/-- W6: a byte out of place is dropped; BYTE_IN runs the byte of its marker. -/
theorem test_byteIn : after (.byteIn 0xAE) { power with fpos := .p1, fchan := 8 } = some { power with fpos := .p1, fchan := 8 } ∧
    after (.byteIn 0x45) { power with fpos := .p1, fchan := 8 } = some { power with fpos := .p2, fchan := 8, fdata := 0x5000 } := by
  decide
/-- R84: another marker at position 3 ends the frame with bits 5:0 zero, or drops it. -/
theorem test_frame_mismatch :
    (after (.frameB0 0 1) { power with fpos := .p3, fchan := 8, fdata := 0x5B80 }).map (fun t => (t.c10, t.fpos)) = some (0x5B80, .p0) ∧
    (after (.frameB0 0 1) { State.powerOn { testParams with p3Mismatch := .dropFrame } with fpos := .p3, fchan := 8, fdata := 0x5B80 }).map
      (fun t => (t.c10, t.fpos)) = some (0, .p0) := by decide
set_option maxRecDepth 4000 in
/-- R85, R86: channels 9, 115 and 11. -/
theorem test_frame_channels :
    (after (.frameB3 2) { power with fpos := .p3, fchan := 9 }).map (fun t => (t.c11, t.s11, t.out.display)) =
      some (2, 2, [[0x32, 0x35, 0x20, 0x31]]) ∧
    (after (.frameB3 4) { power with fpos := .p3, fchan := 115, fdata := 0x100 }).map (fun t => (t.c10, t.out.indicator)) =
      some (0, [[0x31, 0x20, 0x31], [0x36, 0x20, 0x31]]) ∧
    after (.frameB3 4) { power with fpos := .p3, fchan := 11 } = some power := by decide
/-- P3 step 9 -/
theorem test_keyIn : after (.keyIn 0x11) power = some { power with kout := [0x01, 0x68, 0x80, 0xD1] } := by decide

/-! ## Control events (Z1, CR6 to CR9, transport) -/

/-- Z1, and CR9: the refusal mark stays. -/
theorem test_reset :
    after .reset power = some { power with out := { display := [[0x30]], indicator := [[0x30]] } } ∧
    (after .reset { power with refused := true, refusals := [.standbyNotDescribed] }).map (·.refused) = some true := by decide
/-- Z2: the parser and the connections stay. -/
theorem test_reset_keeps :
    after .reset { power with fpos := .p1, fchan := 8, c10 := 0x6104, c11 := 0x42, s11 := 0x42, conn := { display := true, indicator := false } } =
    some { power with
      fpos := .p1, fchan := 8, conn := { display := true, indicator := false },
      out := { display := [[0x30]], indicator := [] }, cond := [.transportUnavailable .indicator] } := by decide
/-- P3 step 3 -/
theorem test_transportStatus : after (.transportStatus 1 false) power =
    some { power with conn := { display := true, indicator := false } } := by decide
/-- CR6, CR7, CR8 -/
theorem test_standby : after .standby power = some { power with refused := true, refusals := [.standbyNotDescribed] } := by decide
theorem test_keyboardStrobe : after .keyboardStrobe power =
    some { power with refused := true, refusals := [.keyboardStrobeNotDescribed] } := by decide
theorem test_proceed : after .proceed power = some { power with refused := true, refusals := [.proceedNotDescribed] } := by decide
/-- CR10, CR11 -/
theorem test_unassigned : after (.unassigned0 0) power = some { power with refused := true, refusals := [.malformedRecord] } ∧
    after (.unassignedF 0) power = some { power with refused := true, refusals := [.malformedRecord] } := by decide

/-! ## Steps -/

/-- CR17: a malformed record is refused by the step itself. -/
theorem test_step_malformed : nextOf (step { power with input := [0x80000141] }) =
    some { power with refused := true, refusals := [.malformedRecord] } := by decide
/-- With nothing pending a step changes nothing. -/
theorem test_step_idle : nextOf (step power) = some power := by decide

/-! ## Witnesses: states and operands that meet the hypotheses of the statements

`power` and `testParams` are concrete. Where a statement has several clauses, the witness meets each at a boundary. -/

/-- The test parameters are in their domains (R7, R88). -/
theorem witness_testParams_ok : paramsOk testParams = true := by decide

theorem witness_DecodeOfEncodeIsIdentity : (Instr.keyIn 0x7FFF).wellFormed = true ∧
    (Instr.transportStatus 1 true).wellFormed = true ∧ (Instr.rw15 true 31 31).wellFormed = true := by decide

theorem witness_EncodeOfDecodeIsIdentity : decode (.record 0x90007FFF) = .ok (.keyIn 0x7FFF) ∧
    decode (.word 0x7FFF) = .ok (.rw15 true 31 31) ∧ decode (.byte 0xFF) = .ok (.frameB3 63) := by decide

/-- Each clause of R100 at its boundary, and the last record on the other side of it. -/
theorem witness_MalformedRecordsAreRefused_malformed :
    Malformed 0x0FFFFFFF ∧ Malformed 0xF0000000 ∧ Malformed 0x20100000 ∧ Malformed 0x10000002 ∧ Malformed 0x50010000 ∧
    Malformed 0x30000001 ∧ Malformed 0xE0010000 ∧ Malformed 0x80000100 ∧ Malformed 0x90008000 ∧ Malformed 0xB0020000 ∧
    Malformed 0xB0010002 := by
  refine ⟨?_, ?_, ?_, ?_, ?_, ?_, ?_, ?_, ?_, ?_, ?_⟩ <;> decide

theorem witness_MalformedRecordsAreRefused_wellFormed :
    ¬ Malformed 0x100F0001 ∧ ¬ Malformed 0x2000FFFF ∧ ¬ Malformed 0x30000000 ∧ ¬ Malformed 0x800000FF ∧
    ¬ Malformed 0x90007FFF ∧ ¬ Malformed 0xB0010001 := by
  refine ⟨?_, ?_, ?_, ?_, ?_, ?_⟩ <;> decide

theorem witness_StepRunsTheDecodedInstruction :
    { power with input := [0x30000000, 0xA0000000] }.input = 0x30000000 :: [0xA0000000] ∧
    decodeRecord 0x30000000 = .ok .dispStrobe := by decide

theorem witness_PlacedInstructionIsRunNext : decodeTableWord 8 0xFF = some (.frameB3 63) ∧
    decodeTableWord 16 0x7FFF = some (.rw15 true 31 31) ∧ decodeTableWord 32 0x90007FFF = some (.keyIn 0x7FFF) := by decide

theorem witness_ByteInRunsTheFrameByte : (0x3F#8).extractLsb' 6 2 = 0 ∧ (0x40#8).extractLsb' 6 2 = 1 ∧
    (0x80#8).extractLsb' 6 2 = 2 ∧ (0xC0#8).extractLsb' 6 2 = 3 := by decide

theorem witness_NothingHappensWithoutInput : power.input = [] := rfl

/-- A state in which a sign is set, the parser waits for its last byte and a refusal is marked meets the invariant. -/
theorem witness_Inv : Inv { power with
    plus := { r1 := true, r2 := false, r3 := true }, minus := { r1 := false, r2 := true, r3 := true },
    sout := { r1 := .plus, r2 := .minus, r3 := .minus }, fpos := .p3, fchan := 127, fdata := 0x7FC0,
    refused := true, refusals := [.malformedRecord] } where
  params := by decide
  blank_iff := fun r => by cases r <;> decide
  plus_alone := fun r => by cases r <;> decide
  minus_alone := fun r => by cases r <;> decide
  at_p0 := by decide
  at_p1 := by decide
  at_p2 := by decide
  at_p3 := by decide
  refused_iff := by decide

/-- Power-on meets it too, and its step has a next state. -/
theorem witness_StepKeepsInvariant : Inv power ∧ ∃ t, step { power with input := [0x30000000] } = .next t :=
  ⟨{ params := by decide
     blank_iff := fun r => by cases r <;> decide
     plus_alone := fun r => by cases r <;> decide
     minus_alone := fun r => by cases r <;> decide
     at_p0 := by decide
     at_p1 := by decide
     at_p2 := by decide
     at_p3 := by decide
     refused_iff := by decide }, _, rfl⟩

/-- A step that appends to an output, from a state with a mark (OutputsOnlyGrowAndRefusalSticks, OutputsAreNeverRead). -/
theorem witness_OutputsOnlyGrowAndRefusalSticks :
    (nextOf (step { power with input := [0x30000000], c10 := 0x5BBD, refused := true })).map (fun t => (t.out.display.length, t.refused)) =
      some (2, true) := by decide

/-- Outputs that hold commands of R46. -/
theorem witness_OutputsHoldOnlyCommandsOfTheirRole : OutputsWellFormed { power with
    out := { display := [DIGIT testParams .md1 .blank], indicator := [RESETCMD testParams .indicator] } } := by
  intro role c hc
  cases role
  · have : c = DIGIT testParams .md1 .blank := by simpa [roleGet] using hc
    exact .inl ⟨_, _, this⟩
  · have : c = RESETCMD testParams .indicator := by simpa [roleGet] using hc
    exact .inr this

/-- Positions 0 to 3 (FrameBytesAreAcceptedAtTheirPosition, FrameDeliversItsPair, LostLastByteCostsTwoFrames,
ThePositionThreeByteEndsTheFrame). -/
theorem witness_FramePositions : power.fpos = .p0 ∧ { power with fpos := .p1 }.fpos = .p1 ∧
    { power with fpos := .p2 }.fpos = .p2 ∧ { power with fpos := .p3 }.fpos = .p3 := by decide

/-- Position 3 under each value of P3_MISMATCH, and a connected display. -/
theorem witness_ThePositionThreeByteEndsTheFrame :
    { power with fpos := .p3 }.params.p3Mismatch = .yieldPair ∧
    { State.powerOn { testParams with p3Mismatch := .dropFrame } with fpos := .p3 }.params.p3Mismatch = .dropFrame ∧
    roleGet testParams.connAtPowerOn .display = true := by decide

/-- The four ways FRAME_DISPATCH goes: 8, 9, 115 and any other channel. -/
theorem witness_Dispatched_other : (7 : BitVec 7) ≠ 8 ∧ (7 : BitVec 7) ≠ 9 ∧ (7 : BitVec 7) ≠ 115 := by decide

theorem witness_KeyInSendsTheKeyFrame : (0x7FFF#16).getLsbD 15 = false ∧ (0x8000#16).getLsbD 15 = true ∧
    power.params.keyChannel = 13 := by decide

theorem witness_PerBitWriteChangesOneBit : (1 : BitVec 4) ≠ 0 ∧ (15 : BitVec 4) ≠ 0 ∧ power.c10 = 0 ∧
    testParams.ch11Map[1] = some .compActy := by decide

theorem witness_SegmentMapperIsTheTable : segDecode 0 = some .blank ∧ segDecode 31 = some (.num 9) ∧ segDecode 1 = none := by
  decide

/-- A word of each relay word's mask and match, the lowest for even and the highest for odd relay words. -/
theorem witness_RelayWordRuns :
    0x0000#15 &&& 0x7800#15 = (0#4).setWidth 15 <<< 11 ∧ 0x0FFF#15 &&& 0x7800#15 = (1#4).setWidth 15 <<< 11 ∧
    0x1000#15 &&& 0x7800#15 = (2#4).setWidth 15 <<< 11 ∧ 0x1FFF#15 &&& 0x7800#15 = (3#4).setWidth 15 <<< 11 ∧
    0x2000#15 &&& 0x7800#15 = (4#4).setWidth 15 <<< 11 ∧ 0x2FFF#15 &&& 0x7800#15 = (5#4).setWidth 15 <<< 11 ∧
    0x3000#15 &&& 0x7800#15 = (6#4).setWidth 15 <<< 11 ∧ 0x3FFF#15 &&& 0x7800#15 = (7#4).setWidth 15 <<< 11 ∧
    0x4000#15 &&& 0x7800#15 = (8#4).setWidth 15 <<< 11 ∧ 0x4FFF#15 &&& 0x7800#15 = (9#4).setWidth 15 <<< 11 ∧
    0x5000#15 &&& 0x7800#15 = (10#4).setWidth 15 <<< 11 ∧ 0x5FFF#15 &&& 0x7800#15 = (11#4).setWidth 15 <<< 11 ∧
    0x6000#15 &&& 0x7800#15 = (12#4).setWidth 15 <<< 11 ∧ 0x6FFF#15 &&& 0x7800#15 = (13#4).setWidth 15 <<< 11 ∧
    0x7000#15 &&& 0x7800#15 = (14#4).setWidth 15 <<< 11 ∧ 0x7FFF#15 &&& 0x7800#15 = (15#4).setWidth 15 <<< 11 := by decide

/-- The input lists of the relay-word-0 and relay-word-13 clauses, and the connections of the examples. -/
theorem witness_RelayWordExamples : { power with input := [0x200003BD, 0x30000000] }.input = [0x200003BD, 0x30000000] ∧
    { power with input := [0x20006863, 0x30000000] }.input = [0x20006863, 0x30000000] ∧
    roleGet testParams.connAtPowerOn .display = true ∧ roleGet testParams.connAtPowerOn .indicator = true ∧
    testParams.lamp12Map = defaultLamp12Map := by decide

/-- Two words that agree in the six lamp bits and differ elsewhere. -/
theorem witness_RelayWordTwelveDrivesTheLamps : (∃ t, exec (.rw12 false 8 4) power = .next t) ∧
    8#5 &&& 0b01101#5 = 26#5 &&& 0b01101#5 ∧ 4#5 &&& 0b11100#5 = 7#5 &&& 0b11100#5 := ⟨⟨_, rfl⟩, by decide, by decide⟩

/-- A relay word that carries no digit of MD1, no sign of row 1, no lamp; and one with no field. -/
theorem witness_RelayWordsChangeOnlyDisplayState : isRelayWord (.rw1 true 3 25) = true ∧
    (∃ t, exec (.rw1 true 3 25) power = .next t) ∧ DigitField.md1 ∉ fieldsOf (.rw1 true 3 25) ∧
    writesSign .r1 (.rw1 true 3 25) = false ∧ writesL12 (.rw1 true 3 25) = false ∧ fieldsOf (.rw12 false 8 4) = [] :=
  ⟨rfl, ⟨_, rfl⟩, by decide, rfl, rfl, rfl⟩

/-- Every element can change: a next state in which each differs from before. -/
theorem witness_EachElementHasItsNamedWriters :
    (after (.ch10Write 1) power).map (·.c10 ≠ power.c10) = some True ∧
    (after (.ch11Write 1) power).map (·.c11 ≠ power.c11) = some True ∧
    (after (.trackerSetBit 1 true) power).map (·.s11 ≠ power.s11) = some True ∧
    (after (.rw12 false 8 4) power).map (·.l12 ≠ power.l12) = some True ∧
    (after (.rw7 true 29 27) power).map (·.sout ≠ power.sout) = some True ∧
    (after (.rw8 false 0 15) power).map (fun t => cacheGet t.dcache .r1d1 ≠ cacheGet power.dcache .r1d1) = some True ∧
    (after (.frameB0 0 1) power).map (·.fchan ≠ power.fchan) = some True ∧
    (after (.transportStatus 0 false) power).map (·.conn ≠ power.conn) = some True ∧
    (after (.keyIn 0) power).map (·.kout ≠ power.kout) = some True ∧
    (after .standby power).map (·.refused ≠ power.refused) = some True := by
  refine ⟨?_, ?_, ?_, ?_, ?_, ?_, ?_, ?_, ?_, ?_⟩ <;> exact congrArg some (eq_true (by decide))

/-- A SET_ONLY state with a plus and a minus flag, and an instruction that completes from it. -/
theorem witness_SetOnlyFlagsAreClearedByResetAlone :
    let s := { State.powerOn { testParams with signFlagMode := .setOnly } with
      plus := { r1 := true, r2 := false, r3 := false }, minus := { r1 := true, r2 := false, r3 := false } }
    s.params.signFlagMode = .setOnly ∧ Instr.rw7 false 0 0 ≠ .reset ∧ (∃ t, exec (.rw7 false 0 0) s = .next t) ∧
    rowGet s.plus .r1 = true ∧ rowGet s.minus .r1 = true := ⟨rfl, by decide, ⟨_, rfl⟩, rfl, rfl⟩

/-- FOLLOW, and each pair of sign bits that is not both 1. -/
theorem witness_FollowWordsBlankTheSign : power.params.signFlagMode = .follow ∧ ¬(false = true ∧ false = true) ∧
    ¬(true = true ∧ false = true) ∧ ¬(false = true ∧ true = true) := by decide

/-- Two invalid patterns; one invalid relay word; and a disconnected display. -/
theorem witness_ConditionsOfOneWordAreLimited : (∃ t, exec (.rw9 false 1 2) power = .next t) ∧
    (∃ t, exec (.rw13 false 0 0) power = .next t) ∧ isRelayWord (.rw9 false 1 2) = true ∧ isRelayWord (.rw13 false 0 0) = true ∧
    roleGet { testParams with connAtPowerOn := { display := false, indicator := true } }.connAtPowerOn .display = false :=
  ⟨⟨_, rfl⟩, ⟨_, rfl⟩, rfl, rfl, rfl⟩

/-- Both boundary indices with a changed and an unchanged bit, the default map, both roles connected. -/
theorem witness_TrackerSetBitIsEdgeTriggered : (1 : BitVec 4) ≠ 0 ∧ (15 : BitVec 4) ≠ 0 ∧
    false = getBit power.s11 0 ∧ true ≠ getBit power.s11 14 ∧ testParams.ch11Map = defaultCh11Map ∧
    roleGet testParams.connAtPowerOn .display = true ∧ roleGet testParams.connAtPowerOn .indicator = true := by decide

theorem witness_IndcStrobePresentsEveryBit : { power with c11 := 0x7FFF, s11 := 0x7FFF }.c11 = 0x7FFF ∧
    power.c11 = power.s11 := by decide

theorem witness_RepeatedIndicatorUpdatesAreSilent : (∃ t, exec .indcStrobe power = .next t) ∧
    (∃ t, exec (.trackerSetBit 4 true) power = .next t) ∧ ∃ t, exec (.rw12 false 8 4) power = .next t :=
  ⟨⟨_, rfl⟩, ⟨_, rfl⟩, ⟨_, rfl⟩⟩

/-- A word without a sign and one with a sign, run twice. -/
theorem witness_ValidDigitsAreEmittedEveryTime :
    (fieldsOf (.rw9 false 1 28) ≠ [] ∧ (∀ r, writesSign r (.rw9 false 1 28) = false) ∧
      ∃ t u, exec (.rw9 false 1 28) power = .next t ∧ exec (.rw9 false 1 28) t = .next u) ∧
    (fieldsOf (.rw7 true 29 27) ≠ [] ∧
      ∃ t u, exec (.rw7 true 29 27) power = .next t ∧ exec (.rw7 true 29 27) t = .next u) :=
  ⟨⟨by decide, fun r => by cases r <;> rfl, _, _, rfl, rfl⟩, by decide, _, _, rfl, rfl⟩

theorem witness_CommandsOfARoleAreDistinguishable : paramsOk testParams = true ∧
    CmdName.digit .md1 ∈ cmdNames testParams ∧ CmdName.acty ∈ cmdNames testParams ∧
    cmdRole (.digit .md1) = cmdRole .acty := by decide

theorem witness_TransportStatusSetsTheFlag : (1 : BitVec 4).toNat ≤ 1 ∧ 2 ≤ (2 : BitVec 4).toNat ∧
    roleGet power.conn .display = true ∧
    roleGet { power with conn := { display := false, indicator := true } }.conn .display = false := by decide

theorem witness_ResetClearsDecoderAndTracker : ∃ t u v, exec .reset power = .next t ∧
    exec (.rw7 true 29 27) t = .next u ∧ exec (.rw7 true 29 27) { State.powerOn power.params with conn := power.conn } = .next v :=
  ⟨_, _, _, rfl, rfl, rfl⟩

theorem witness_UndescribedEventsAreRefused : ∃ t, exec .reset { power with refused := true } = .next t ∧
    { power with refused := true }.refused = true := ⟨_, rfl, rfl⟩

/-- A completing byte on channel 115, and one on KEY_CHANNEL. -/
theorem witness_DescribedChannelsAreActedOnAndOthersDropped :
    (KeyChannelApart testParams ∧ { power with fpos := .p3, fchan := 115 }.fpos = .p3 ∧ (0xC4#8).extractLsb' 6 2 = 3) ∧
    { power with fpos := .p3, fchan := 13 }.fchan = power.params.keyChannel ∧
    roleGet testParams.connAtPowerOn .indicator = true ∧ testParams.lamp12Map = defaultLamp12Map := by
  unfold KeyChannelApart
  decide

/-- A lamp and two Channel-11 bits that are on, with the commands that put them on, one lamp reset since. -/
def commanded : State := { power with
  input := [0x30000000], c10 := 0x6104, l12 := { power.l12 with b3 := true }, s11 := 0x42,
  out := { display := [ACTY testParams true],
           indicator := [LAMP testParams .prog true, RESETCMD testParams .indicator, LAMP testParams .vel true,
             LAMP testParams .oprErr true] } }

/-- Each mapped bit of `commanded` holds its last command's value. -/
theorem commanded_tracker : ∀ k : RegBit, (match testParams.ch11Map[k] with
    | none => true
    | some (.lamp n) => getBit commanded.s11 k == lastValue testParams (.lamp n) commanded.out.indicator
    | some .compActy => getBit commanded.s11 k == lastValue testParams .acty commanded.out.display) = true := by decide

theorem commanded_agree : CommandsAgree commanded where
  lamps := fun b _ => by cases b <;> decide
  trackerLamps := fun k n hk _ _ => by
    have h := commanded_tracker k
    rw [show testParams.ch11Map[k] = some (.lamp n) from hk] at h
    exact eq_of_beq h
  acty := fun k hk => by
    have h := commanded_tracker k
    rw [show testParams.ch11Map[k] = some .compActy from hk] at h
    exact eq_of_beq h

theorem witness_StepKeepsCommandsAgreeing : paramsOk commanded.params = true ∧ (∀ role, roleGet commanded.conn role = true) ∧
    CommandsAgree commanded ∧ ∃ t, step commanded = .next t :=
  ⟨by decide, fun role => by cases role <;> rfl, commanded_agree, _, rfl⟩

theorem witness_StateDoesNotDependOnConnections : ∃ t, step { power with input := [0x30000000], c10 := 0x6104 } = .next t :=
  ⟨_, rfl⟩

end Sys2Proof.Tests
end

section
/-! The step at a pending record, and the parameters of State.reset (00_scope.md). -/

namespace Sys2Proof.Machine

/-! ## The step at a pending record -/

theorem takeInput_of_input_cons {s : State} {r : Record} {rest : List Record} (hin : s.input = r :: rest) :
    takeInput s = some (r, { s with input := rest }) := by
  rw [takeInput, hin]

/-- The step at a record that decodes. `step_cases` is the other direction, from a step that has a next state. -/
theorem step_eq_exec {s : State} {r : Record} {rest : List Record} {i : Instr} (hin : s.input = r :: rest)
    (hdec : decodeRecord r = .ok i) : step s = exec i { s with input := rest } := by
  simp only [step, takeInput_of_input_cons hin, hdec]

/-! ## The default parameters -/

/-- Under the defaults of R7 only the command codes are left to check: the two default maps are in their domains
(R42, R43). -/
theorem paramsOk_defaultParams (c : CmdCodes) : paramsOk (defaultParams c) = codesOk (defaultParams c) := by
  have hlamps : lamp12MapOk (defaultParams c) = true := rfl
  have hch11 : ch11MapOk (defaultParams c) = true := rfl
  rw [paramsOk, hlamps, hch11, Bool.true_and, Bool.true_and]

/-- The test codes meet R88, so the fallback of `openCodes` does too. -/
theorem codesOk_fixtureCode : codesOk (defaultParams (codesFrom fixtureCode)) = true := by decide

/-- The free command codes meet R88: either the free value does, or the test codes stand in for it. -/
theorem codesOk_openCodes : codesOk (defaultParams openCodes) = true := by
  unfold openCodes
  split
  case isTrue hfree => exact hfree
  case isFalse => exact codesOk_fixtureCode

theorem paramsOk_reset : paramsOk State.reset.params = true :=
  (paramsOk_defaultParams openCodes).trans codesOk_openCodes

theorem connAtPowerOn_reset (role : Role) : roleGet State.reset.params.connAtPowerOn role = true := by
  cases role <;> rfl

/-! ## The obligations -/

/-- Settles O5: the oldest record is taken, and its instruction is executed at the state without it. -/
theorem stepRunsTheDecodedInstruction : Obligations.StepRunsTheDecodedInstruction :=
  fun _ _ _ _ hin hdec => step_eq_exec hin hdec

/-- Settles O12: the defaults are read off `defaultParams`; only the domains need an argument, as the command codes are
free, and `codesOk_openCodes` gives it. -/
theorem resetParametersAreTheDefaults : Obligations.ResetParametersAreTheDefaults :=
  ⟨rfl, rfl, rfl, rfl, rfl, rfl, connAtPowerOn_reset, rfl, rfl, rfl, rfl, rfl, rfl, rfl, paramsOk_reset⟩

end Sys2Proof.Machine
end

section
/-! Which instructions can change which element (10_state.md R11), as a relation that composes: what an instruction
touches is what the shared operations of its chain touch. -/

namespace Sys2Proof.Machine

open Sys2Proof.Safety

/-- From `s` to `t` only those elements change that name `i` among their writers. -/
structure Touches (i : Instr) (s t : State) : Prop where
  c10 : writesC10 i = false → t.c10 = s.c10
  c11 : writesC11 i = false → t.c11 = s.c11
  s11 : writesS11 i = false → t.s11 = s.s11
  l12 : writesL12 i = false → t.l12 = s.l12
  sign : ∀ r, writesSign r i = false →
    rowGet t.plus r = rowGet s.plus r ∧ rowGet t.minus r = rowGet s.minus r ∧ rowGet t.sout r = rowGet s.sout r
  field : ∀ f, writesField f i = false → cacheGet t.dcache f = cacheGet s.dcache f
  parser : isByte i = false → t.fpos = s.fpos ∧ t.fchan = s.fchan ∧ t.fdata = s.fdata
  conn : (¬∃ role up, i = .transportStatus role up) → t.conn = s.conn
  kout : (¬∃ k, i = .keyIn k) → t.kout = s.kout
  refusal : isRefused i = false → t.refused = s.refused ∧ t.refusals = s.refusals
  params : t.params = s.params
  input : t.input = s.input

theorem Touches.refl (i : Instr) (s : State) : Touches i s s := by
  constructor <;> simp

theorem Touches.trans {i : Instr} {s t u : State} (h : Touches i s t) (k : Touches i t u) : Touches i s u where
  c10 w := (k.c10 w).trans (h.c10 w)
  c11 w := (k.c11 w).trans (h.c11 w)
  s11 w := (k.s11 w).trans (h.s11 w)
  l12 w := (k.l12 w).trans (h.l12 w)
  sign r w := by
    obtain ⟨hp, hm, hs⟩ := h.sign r w
    obtain ⟨kp, km, ks⟩ := k.sign r w
    exact ⟨kp.trans hp, km.trans hm, ks.trans hs⟩
  field f w := (k.field f w).trans (h.field f w)
  parser w := by
    obtain ⟨hp, hc, hd⟩ := h.parser w
    obtain ⟨kp, kc, kd⟩ := k.parser w
    exact ⟨kp.trans hp, kc.trans hc, kd.trans hd⟩
  conn w := (k.conn w).trans (h.conn w)
  kout w := (k.kout w).trans (h.kout w)
  refusal w := by
    obtain ⟨hr, hl⟩ := h.refusal w
    obtain ⟨kr, kl⟩ := k.refusal w
    exact ⟨kr.trans hr, kl.trans hl⟩
  params := k.params.trans h.params
  input := k.input.trans h.input

/-! ## The shared operations -/

section SharedOperations
variable {i : Instr}

theorem report_touches (c : Condition) (s : State) : Touches i s (report c s) := by
  constructor <;> simp

theorem refuse_touches (hi : isRefused i = true) (r : RefusalReason) (s : State) : Touches i s (refuse r s) := by
  constructor <;> simp [hi]

theorem digitUpdate_touches {f : DigitField} (hf : writesField f i = true) (p : BitVec 5) (s : State) :
    Touches i s (digitUpdate f p s) := by
  constructor
  case field =>
    intro g hg
    refine digitUpdate_dcache_other ?_ p s
    rintro rfl
    simp [hf] at hg
  all_goals simp

theorem signUpdate_touches {r : Row} (hr : writesSign r i = true) (w : SignFlag) (sb : Bool) (s : State) :
    Touches i s (signUpdate r w sb s) := by
  constructor
  case sign =>
    intro q hq
    have hne : q ≠ r := by
      rintro rfl
      simp [hr] at hq
    rw [signUpdate_plus, signUpdate_minus, signUpdate_sout]
    cases w <;> simp [offerSign, hne]
  all_goals simp

theorem lamp12Update_touches (hi : writesL12 i = true) (bit : LampBit → Bool) (s : State) :
    Touches i s (lamp12Update bit s) := by
  constructor <;> simp [hi]

theorem presentAll_touches (hi : writesS11 i = true) (s : State) : Touches i s (presentAll s) := by
  constructor <;> simp [hi]

theorem trkSetIndexed_touches (hi : writesS11 i = true) (k : BitVec 4) (v : Bool) (s : State) :
    Touches i s (trkSetIndexed k v s) := by
  constructor <;> simp [hi]

theorem twoFields_touches {f g : DigitField} (hf : writesField f i = true) (hg : writesField g i = true)
    (up lo : BitVec 5) (s : State) : Touches i s (digitUpdate g lo (digitUpdate f up s)) :=
  (digitUpdate_touches hf up s).trans (digitUpdate_touches hg lo _)

theorem twoFieldsAndSign_touches {f g : DigitField} {r : Row} (hf : writesField f i = true)
    (hg : writesField g i = true) (hr : writesSign r i = true) (w : SignFlag) (sb : Bool) (up lo : BitVec 5) (s : State) :
    Touches i s (signUpdate r w sb (digitUpdate g lo (digitUpdate f up s))) :=
  (twoFields_touches hf hg up lo s).trans (signUpdate_touches hr w sb _)

end SharedOperations

/-! ## Relay words and frames -/

/-- `i` may write whatever the relay word `j` writes. -/
structure WritesAtLeast (j i : Instr) : Prop where
  field : ∀ f, writesField f j = true → writesField f i = true
  sign : ∀ r, writesSign r j = true → writesSign r i = true
  lamps : writesL12 j = true → writesL12 i = true

theorem WritesAtLeast.refl (i : Instr) : WritesAtLeast i i := ⟨fun _ => id, fun _ => id, id⟩

theorem writesAtLeast_dispStrobe (j : Instr) : WritesAtLeast j .dispStrobe :=
  ⟨fun _ _ => rfl, fun r _ => by cases r <;> rfl, fun _ => rfl⟩

/-- The relay-word dispatch of R60 touches what its relay word's row may write. -/
theorem dispatchRelay_touches {rw : BitVec 4} {sb : Bool} {up lo : BitVec 5} {i : Instr} {s t : State}
    (hi : WritesAtLeast (relayInstr rw sb up lo) i) (h : dispatchRelay rw sb up lo s = .next t) : Touches i s t := by
  rcases relayWord_cases rw with e | e | e | e | e | e | e | e | e | e | e | e | e | e | e | e <;> subst e <;>
    (change Host.Outcome.next _ = _ at h; injection h with h; subst h)
  case inl => exact .refl i s
  · exact twoFieldsAndSign_touches (hi.field _ rfl) (hi.field _ rfl) (hi.sign _ rfl) _ _ _ _ _
  · exact twoFieldsAndSign_touches (hi.field _ rfl) (hi.field _ rfl) (hi.sign _ rfl) _ _ _ _ _
  · exact twoFields_touches (hi.field _ rfl) (hi.field _ rfl) _ _ _
  · exact twoFieldsAndSign_touches (hi.field _ rfl) (hi.field _ rfl) (hi.sign _ rfl) _ _ _ _ _
  · exact twoFieldsAndSign_touches (hi.field _ rfl) (hi.field _ rfl) (hi.sign _ rfl) _ _ _ _ _
  · exact twoFieldsAndSign_touches (hi.field _ rfl) (hi.field _ rfl) (hi.sign _ rfl) _ _ _ _ _
  · exact twoFieldsAndSign_touches (hi.field _ rfl) (hi.field _ rfl) (hi.sign _ rfl) _ _ _ _ _
  · exact digitUpdate_touches (hi.field _ rfl) _ _
  · exact twoFields_touches (hi.field _ rfl) (hi.field _ rfl) _ _ _
  · exact twoFields_touches (hi.field _ rfl) (hi.field _ rfl) _ _ _
  · exact twoFields_touches (hi.field _ rfl) (hi.field _ rfl) _ _ _
  · exact lamp12Update_touches (hi.lamps rfl) _ _
  · exact report_touches _ s
  · exact report_touches _ s
  · exact report_touches _ s

theorem exists_relayInstr {i : Instr} (hi : isRelayWord i = true) : ∃ rw sb up lo, i = relayInstr rw sb up lo := by
  cases i with
  | rw0 sb up lo => exact ⟨0, sb, up, lo, rfl⟩
  | rw1 sb up lo => exact ⟨1, sb, up, lo, rfl⟩
  | rw2 sb up lo => exact ⟨2, sb, up, lo, rfl⟩
  | rw3 sb up lo => exact ⟨3, sb, up, lo, rfl⟩
  | rw4 sb up lo => exact ⟨4, sb, up, lo, rfl⟩
  | rw5 sb up lo => exact ⟨5, sb, up, lo, rfl⟩
  | rw6 sb up lo => exact ⟨6, sb, up, lo, rfl⟩
  | rw7 sb up lo => exact ⟨7, sb, up, lo, rfl⟩
  | rw8 sb up lo => exact ⟨8, sb, up, lo, rfl⟩
  | rw9 sb up lo => exact ⟨9, sb, up, lo, rfl⟩
  | rw10 sb up lo => exact ⟨10, sb, up, lo, rfl⟩
  | rw11 sb up lo => exact ⟨11, sb, up, lo, rfl⟩
  | rw12 sb up lo => exact ⟨12, sb, up, lo, rfl⟩
  | rw13 sb up lo => exact ⟨13, sb, up, lo, rfl⟩
  | rw14 sb up lo => exact ⟨14, sb, up, lo, rfl⟩
  | rw15 sb up lo => exact ⟨15, sb, up, lo, rfl⟩
  | _ => cases hi

theorem relayInstr_touches (rw : BitVec 4) (sb : Bool) (up lo : BitVec 5) {s t : State}
    (h : exec (relayInstr rw sb up lo) s = .next t) : Touches (relayInstr rw sb up lo) s t :=
  dispatchRelay_touches (.refl _) ((dispatchRelay_eq_exec rw sb up lo s).trans h)

section Bytes
variable {i : Instr}

/-- A byte may end a frame, so it is a writer of both registers and of what every relay word and strobe writes. -/
theorem isByte_writes (hi : isByte i = true) :
    writesC10 i = true ∧ writesC11 i = true ∧ writesS11 i = true ∧ ∀ j, WritesAtLeast j i := by
  cases i with
  | byteIn | frameB0 | frameB1 | frameB2 | frameB3 =>
    exact ⟨rfl, rfl, rfl, fun _ => ⟨fun _ _ => rfl, fun r _ => by cases r <;> rfl, fun _ => rfl⟩⟩
  | _ => cases hi

theorem parserWrite_touches (hi : isByte i = true) (s : State) (fpos : FramePos) (fchan : BitVec 7)
    (fdata : BitVec 15) : Touches i s { s with fpos := fpos, fchan := fchan, fdata := fdata } := by
  constructor <;> simp [hi]

theorem c10Write_touches (hi : writesC10 i = true) (s : State) (w : ChanWord) : Touches i s { s with c10 := w } := by
  constructor <;> simp [hi]

theorem c11Write_touches (hi : writesC11 i = true) (s : State) (w : ChanWord) : Touches i s { s with c11 := w } := by
  constructor <;> simp [hi]

/-- What FRAME_DISPATCH (R85, R86) can do, as an answer: the dispatch of the word now in `C10`, the strobe of the word
now in `C11`, the lamps, or nothing. -/
theorem frameDispatch_cases {ch : BitVec 7} {d : BitVec 15} {s t : State} (h : frameDispatch ch d s = .next t) :
    apply { s with c10 := d } = .next t ∨ t = presentAll { s with c11 := d } ∨
      t = lamp12Update (lampSource d) s ∨ t = s := by
  unfold frameDispatch at h
  split at h
  · exact .inl h
  · split at h
    · injection h with h; exact .inr (.inl h.symm)
    · split at h <;> injection h with h
      · exact .inr (.inr (.inl h.symm))
      · exact .inr (.inr (.inr h.symm))

theorem frameDispatch_touches (hi : isByte i = true) {ch : BitVec 7} {d : BitVec 15} {s t : State}
    (h : frameDispatch ch d s = .next t) : Touches i s t := by
  obtain ⟨hc10, hc11, hs11, hwords⟩ := isByte_writes hi
  rcases frameDispatch_cases h with h | rfl | rfl | rfl
  · exact (c10Write_touches hc10 s d).trans (dispatchRelay_touches (hwords _) h)
  · exact (c11Write_touches hc11 s d).trans (presentAll_touches hs11 _)
  · exact lamp12Update_touches ((hwords (.rw12 false 0 0)).lamps rfl) _ s
  · exact .refl i t

end Bytes

/-- What a frame byte can do (R83, R84), by the parser's position: fill the accumulator, be dropped, end the frame. -/
inductive ByteDoes (s : State) : State → Prop
  | first (chHi : BitVec 4) : s.fpos = .p0 →
      ByteDoes s { s with fchan := chHi.setWidth 7 <<< 3, fdata := 0, fpos := .p1 }
  | second (chLo dHi : BitVec 3) : s.fpos = .p1 →
      ByteDoes s { s with fchan := s.fchan ||| chLo.setWidth 7, fdata := dHi.setWidth 15 <<< 12, fpos := .p2 }
  | third (dMid : BitVec 6) : s.fpos = .p2 →
      ByteDoes s { s with fdata := s.fdata ||| (dMid.setWidth 15 <<< 6), fpos := .p3 }
  | dropped : s.fpos ≠ .p3 → ByteDoes s s
  | frameDropped : s.fpos = .p3 → ByteDoes s (clearParser s)
  | frame {d : BitVec 15} {t : State} : s.fpos = .p3 → frameDispatch s.fchan d (clearParser s) = .next t → ByteDoes s t

theorem frameEndMismatched_byteDoes {s t : State} (hp : s.fpos = .p3) (h : frameEndMismatched s = .next t) :
    ByteDoes s t := by
  unfold frameEndMismatched at h
  split at h
  · exact .frame hp h
  · injection h with h
    exact h ▸ .frameDropped hp

theorem execFrameB0_byteDoes {ign : BitVec 2} {chHi : BitVec 4} {s t : State} (h : execFrameB0 ign chHi s = .next t) :
    ByteDoes s t := by
  unfold execFrameB0 at h
  split at h
  case h_4 hp => exact frameEndMismatched_byteDoes hp h
  all_goals injection h with h; subst h
  case h_1 hp => exact .first chHi hp
  all_goals exact .dropped (by simp [*])

theorem execFrameB1_byteDoes {chLo dHi : BitVec 3} {s t : State} (h : execFrameB1 chLo dHi s = .next t) :
    ByteDoes s t := by
  unfold execFrameB1 at h
  split at h
  case h_4 hp => exact frameEndMismatched_byteDoes hp h
  all_goals injection h with h; subst h
  case h_2 hp => exact .second chLo dHi hp
  all_goals exact .dropped (by simp [*])

theorem execFrameB2_byteDoes {dMid : BitVec 6} {s t : State} (h : execFrameB2 dMid s = .next t) : ByteDoes s t := by
  unfold execFrameB2 at h
  split at h
  case h_4 hp => exact frameEndMismatched_byteDoes hp h
  all_goals injection h with h; subst h
  case h_3 hp => exact .third dMid hp
  all_goals exact .dropped (by simp [*])

theorem execFrameB3_byteDoes {dLo : BitVec 6} {s t : State} (h : execFrameB3 dLo s = .next t) : ByteDoes s t := by
  unfold execFrameB3 at h
  split at h
  case h_4 hp => exact .frame hp h
  all_goals injection h with h; subst h
  all_goals exact .dropped (by simp [*])

theorem execByteIn_byteDoes {b : Byte} {s t : State} (h : execByteIn b s = .next t) : ByteDoes s t := by
  unfold execByteIn at h
  split at h
  · exact execFrameB0_byteDoes h
  · exact execFrameB1_byteDoes h
  · exact execFrameB2_byteDoes h
  · exact execFrameB3_byteDoes h

theorem exec_byteDoes {i : Instr} {s t : State} (hi : isByte i = true) (h : exec i s = .next t) : ByteDoes s t := by
  cases i with
  | byteIn => exact execByteIn_byteDoes h
  | frameB0 ign chHi => exact execFrameB0_byteDoes (ign := ign) h
  | frameB1 => exact execFrameB1_byteDoes h
  | frameB2 => exact execFrameB2_byteDoes h
  | frameB3 => exact execFrameB3_byteDoes h
  | _ => cases hi

theorem ByteDoes.touches {i : Instr} {s t : State} (hi : isByte i = true) (h : ByteDoes s t) : Touches i s t := by
  cases h with
  | first | second | third | frameDropped => exact parserWrite_touches hi s _ _ _
  | dropped => exact .refl i s
  | frame _ hd => exact (parserWrite_touches hi s .p0 0 0).trans (frameDispatch_touches hi hd)

/-! ## Every instruction -/

/-- A role field that names no role is the ill-formed one (R95, R100). -/
theorem roleFieldOk_of_roleOf_eq_none {role : BitVec 4} : roleOf role = none → roleFieldOk role = false := by
  revert role; decide

theorem execTransportStatus_touches {role : BitVec 4} {up : Bool} {s t : State}
    (h : execTransportStatus role up s = .next t) : Touches (.transportStatus role up) s t := by
  unfold execTransportStatus at h
  split at h <;> injection h with h <;> subst h
  case h_1 => constructor <;> simp
  case h_2 hr =>
    exact refuse_touches (by simp [isRefused, Instr.wellFormed, roleFieldOk_of_roleOf_eq_none hr]) _ s

theorem execKeyIn_touches {k : BitVec 16} {s t : State} (h : execKeyIn k s = .next t) : Touches (.keyIn k) s t := by
  unfold execKeyIn at h
  split at h <;> injection h with h <;> subst h
  case isTrue => constructor <;> simp
  case isFalse hk => exact refuse_touches (by simpa [isRefused, Instr.wellFormed] using hk) _ s

theorem exec_reset_eq (s : State) : exec .reset s = .next (emit .indicator (encodeReset s.params .indicator)
    (clearTracker (emit .display (encodeReset s.params .display) (clearDisplay s)))) := by
  simp [exec, execReset]

theorem execReset_touches {s t : State} (h : exec .reset s = .next t) : Touches .reset s t := by
  rw [exec_reset_eq] at h
  injection h with h
  subst h
  constructor
  case c10 | c11 | s11 | l12 => exact fun hw => absurd hw Bool.noConfusion
  case sign => exact fun r hw => by cases r <;> exact absurd hw Bool.noConfusion
  case field => exact fun _ hw => absurd hw Bool.noConfusion
  all_goals simp

/-- An instruction touches only what names it as a writer. -/
theorem exec_touches {i : Instr} {s t : State} (h : exec i s = .next t) : Touches i s t := by
  by_cases hi : isRelayWord i = true
  · obtain ⟨rw, sb, up, lo, rfl⟩ := exists_relayInstr hi
    exact relayInstr_touches rw sb up lo h
  cases i with
  | byteIn | frameB0 | frameB1 | frameB2 | frameB3 => exact (exec_byteDoes rfl h).touches rfl
  | dispStrobe => exact dispatchRelay_touches (writesAtLeast_dispStrobe _) h
  | keyIn => exact execKeyIn_touches h
  | transportStatus => exact execTransportStatus_touches h
  | reset => exact execReset_touches h
  | ch10SetBit | ch10Write => injection h with h; subst h; exact c10Write_touches rfl s _
  | ch11SetBit | ch11Write => injection h with h; subst h; exact c11Write_touches rfl s _
  | indcStrobe => injection h with h; subst h; exact presentAll_touches rfl s
  | trackerSetBit => injection h with h; subst h; exact trkSetIndexed_touches rfl _ _ s
  | unassigned0 | unassignedF | standby | keyboardStrobe | proceed =>
    injection h with h; subst h; exact refuse_touches rfl _ s
  | _ => exact absurd rfl hi

/-- Settles O35: the contrapositive of each part of `exec_touches`. -/
theorem eachElementHasItsNamedWriters : Obligations.EachElementHasItsNamedWriters := by
  intro i s t h
  have w := exec_touches h
  refine ⟨fun n => eq_true_of_ne_false (mt w.c10 n), fun n => eq_true_of_ne_false (mt w.c11 n),
    fun n => eq_true_of_ne_false (mt w.s11 n), fun n => eq_true_of_ne_false (mt w.l12 n),
    fun r n => eq_true_of_ne_false (mt (w.sign r) ?_), fun f n => eq_true_of_ne_false (mt (w.field f) n),
    fun n => eq_true_of_ne_false (mt w.parser ?_), fun n => not_not.mp (mt w.conn n),
    fun n => not_not.mp (mt w.kout n), fun n => eq_true_of_ne_false (mt w.refusal ?_), w.params, w.input⟩
  · rintro ⟨hp, hm, hs⟩
    simp [hp, hm, hs] at n
  · rintro ⟨hp, hc, hd⟩
    simp [hp, hc, hd] at n
  · rintro ⟨hr, hl⟩
    simp [hr, hl] at n

end Sys2Proof.Machine
end

section
/-! The outputs are never read (10_state.md R21): every operation commutes with putting earlier outputs before the
ones of the state it runs on. -/

namespace Sys2Proof.Machine

open Sys2Proof.Safety

/-- `s` with the outputs and refusals of `x` put before its own. -/
def withPast (x s : State) : State :=
  { s with
    out := { display := x.out.display ++ s.out.display, indicator := x.out.indicator ++ s.out.indicator }
    kout := x.kout ++ s.kout
    cond := x.cond ++ s.cond
    refusals := x.refusals ++ s.refusals
    refused := x.refused || s.refused }

/-- The answer with its next state changed. -/
def onNext (f : State → State) : Result → Result
  | .next s => .next (f s)
  | .fault r => .fault r
  | .refused r => .refused r

theorem onNext_eq_next {f : State → State} {o : Result} {t : State} (h : onNext f o = .next t) :
    ∃ u, o = .next u ∧ t = f u := by
  cases o with
  | next u => injection h with h; exact ⟨u, rfl, h.symm⟩
  | fault => cases h
  | refused => cases h

section Past
variable (x : State)

/-! ## What a rule may read is unchanged -/

@[simp] theorem withPast_sout (s : State) : (withPast x s).sout = s.sout := rfl
@[simp] theorem withPast_s11 (s : State) : (withPast x s).s11 = s.s11 := rfl
@[simp] theorem withPast_l12 (s : State) : (withPast x s).l12 = s.l12 := rfl
@[simp] theorem withPast_fpos (s : State) : (withPast x s).fpos = s.fpos := rfl
@[simp] theorem withPast_conn (s : State) : (withPast x s).conn = s.conn := rfl
@[simp] theorem withPast_params (s : State) : (withPast x s).params = s.params := rfl
@[simp] theorem withPast_input (s : State) : (withPast x s).input = s.input := rfl

theorem withPast_silent (s : State) : withPast s (silent s) = s := by
  simp [withPast, silent]

theorem after_withPast (u : State) : After x u (withPast x u) :=
  ⟨rfl, fun role => by cases role <;> rfl, rfl, rfl, rfl, rfl⟩

/-! ## The shared operations -/

theorem report_withPast (c : Condition) (s : State) : report c (withPast x s) = withPast x (report c s) := by
  simp [report, withPast]

theorem refuse_withPast (r : RefusalReason) (s : State) : refuse r (withPast x s) = withPast x (refuse r s) := by
  simp [refuse, withPast]

theorem send_withPast (bs : Bytes) (s : State) : send bs (withPast x s) = withPast x (send bs s) := by
  simp [send, withPast]

theorem emit_withPast (role : Role) (cmd : Bytes) (s : State) :
    emit role cmd (withPast x s) = withPast x (emit role cmd s) := by
  unfold emit
  rw [withPast_conn]
  split
  · cases role <;> simp [withPast, roleGet, roleSet]
  · exact report_withPast x _ s

theorem digitUpdate_withPast (f : DigitField) (p : BitVec 5) (s : State) :
    digitUpdate f p (withPast x s) = withPast x (digitUpdate f p s) := by
  unfold digitUpdate
  split
  · exact report_withPast x _ s
  · exact emit_withPast x _ _ { s with dcache := cacheSet s.dcache f _ }

theorem offerSign_withPast (r : Row) (w : SignFlag) (sb : Bool) (s : State) :
    offerSign r w sb (withPast x s) = withPast x (offerSign r w sb s) := by cases w <;> rfl

theorem commandSign_withPast (r : Row) (n : Sign) (s : State) :
    commandSign r n (withPast x s) = withPast x (commandSign r n s) := by
  unfold commandSign
  rw [withPast_sout]
  split
  · rfl
  · exact emit_withPast x _ _ { s with sout := rowSet s.sout r n }

theorem signUpdate_withPast (r : Row) (w : SignFlag) (sb : Bool) (s : State) :
    signUpdate r w sb (withPast x s) = withPast x (signUpdate r w sb s) := by
  unfold signUpdate
  rw [offerSign_withPast, ← commandSign_withPast]
  rfl

theorem lampStep_withPast (b : LampBit) (v : Bool) (s : State) :
    lampStep b v (withPast x s) = withPast x (lampStep b v s) := by
  unfold lampStep
  rw [withPast_l12]
  split
  · rfl
  · exact emit_withPast x _ _ { s with l12 := lampSet s.l12 b v }

theorem lamp12Update_withPast (bit : LampBit → Bool) (s : State) :
    lamp12Update bit (withPast x s) = withPast x (lamp12Update bit s) := by
  unfold lamp12Update
  exact List.foldl_hom (withPast x) fun t b => lampStep_withPast x b (bit b) t

theorem trackerCommand_withPast (e : Option Ch11Entry) (v : Bool) (s : State) :
    trackerCommand e v (withPast x s) = withPast x (trackerCommand e v s) := by
  unfold trackerCommand
  split
  · rfl
  · exact emit_withPast x _ _ s
  · exact emit_withPast x _ _ s

theorem trkSetBit_withPast (k : RegBit) (v : Bool) (s : State) :
    trkSetBit k v (withPast x s) = withPast x (trkSetBit k v s) := by
  unfold trkSetBit
  rw [withPast_s11]
  split
  · rfl
  · exact trackerCommand_withPast x _ v { s with s11 := setBit s.s11 k v }

theorem trkSetIndexed_withPast (i : BitVec 4) (v : Bool) (s : State) :
    trkSetIndexed i v (withPast x s) = withPast x (trkSetIndexed i v s) := by
  unfold trkSetIndexed
  split
  · rfl
  · exact trkSetBit_withPast x _ v s

theorem presentAll_withPast (s : State) : presentAll (withPast x s) = withPast x (presentAll s) := by
  unfold presentAll
  exact List.foldl_hom (withPast x) fun t k => trkSetBit_withPast x k (getBit t.c11 k) t

/-! ## Instructions -/

theorem dispatchRelay_withPast (rw : BitVec 4) (sb : Bool) (up lo : BitVec 5) (s : State) :
    dispatchRelay rw sb up lo (withPast x s) = onNext (withPast x) (dispatchRelay rw sb up lo s) := by
  rcases relayWord_cases rw with e | e | e | e | e | e | e | e | e | e | e | e | e | e | e | e <;> subst e <;>
    simp [dispatchRelay, execRw0, execRw1, execRw2, execRw3, execRw4, execRw5, execRw6, execRw7, execRw8, execRw9,
      execRw10, execRw11, execRw12, execRw13, execRw14, execRw15, onNext, digitUpdate_withPast, signUpdate_withPast,
      lamp12Update_withPast, report_withPast]

theorem frameDispatch_withPast (ch : BitVec 7) (d : BitVec 15) (s : State) :
    frameDispatch ch d (withPast x s) = onNext (withPast x) (frameDispatch ch d s) := by
  unfold frameDispatch
  split
  · exact dispatchRelay_withPast x _ _ _ _ { s with c10 := d }
  · split
    · exact congrArg _ (presentAll_withPast x { s with c11 := d })
    · split
      · exact congrArg _ (lamp12Update_withPast x _ s)
      · rfl

theorem frameEndMismatched_withPast (s : State) :
    frameEndMismatched (withPast x s) = onNext (withPast x) (frameEndMismatched s) := by
  unfold frameEndMismatched
  rw [withPast_params]
  split
  · exact frameDispatch_withPast x _ _ (clearParser s)
  · rfl

theorem execFrameB0_withPast (ign : BitVec 2) (chHi : BitVec 4) (s : State) :
    execFrameB0 ign chHi (withPast x s) = onNext (withPast x) (execFrameB0 ign chHi s) := by
  unfold execFrameB0
  rw [withPast_fpos]
  split
  case h_4 => exact frameEndMismatched_withPast x s
  all_goals rfl

theorem execFrameB1_withPast (chLo dHi : BitVec 3) (s : State) :
    execFrameB1 chLo dHi (withPast x s) = onNext (withPast x) (execFrameB1 chLo dHi s) := by
  unfold execFrameB1
  rw [withPast_fpos]
  split
  case h_4 => exact frameEndMismatched_withPast x s
  all_goals rfl

theorem execFrameB2_withPast (dMid : BitVec 6) (s : State) :
    execFrameB2 dMid (withPast x s) = onNext (withPast x) (execFrameB2 dMid s) := by
  unfold execFrameB2
  rw [withPast_fpos]
  split
  case h_4 => exact frameEndMismatched_withPast x s
  all_goals rfl

theorem execFrameB3_withPast (dLo : BitVec 6) (s : State) :
    execFrameB3 dLo (withPast x s) = onNext (withPast x) (execFrameB3 dLo s) := by
  unfold execFrameB3
  rw [withPast_fpos]
  split
  case h_4 => exact frameDispatch_withPast x _ _ (clearParser s)
  all_goals rfl

theorem execByteIn_withPast (b : Byte) (s : State) :
    execByteIn b (withPast x s) = onNext (withPast x) (execByteIn b s) := by
  unfold execByteIn
  split
  · exact execFrameB0_withPast x _ _ s
  · exact execFrameB1_withPast x _ _ s
  · exact execFrameB2_withPast x _ s
  · exact execFrameB3_withPast x _ s

theorem execKeyIn_withPast (k : BitVec 16) (s : State) :
    execKeyIn k (withPast x s) = onNext (withPast x) (execKeyIn k s) := by
  unfold execKeyIn
  split
  · exact congrArg _ (send_withPast x _ s)
  · exact congrArg _ (refuse_withPast x _ s)

theorem execTransportStatus_withPast (role : BitVec 4) (up : Bool) (s : State) :
    execTransportStatus role up (withPast x s) = onNext (withPast x) (execTransportStatus role up s) := by
  unfold execTransportStatus
  split
  · rfl
  · exact congrArg _ (refuse_withPast x _ s)

theorem clearDisplay_withPast (s : State) : clearDisplay (withPast x s) = withPast x (clearDisplay s) := rfl

theorem clearTracker_withPast (s : State) : clearTracker (withPast x s) = withPast x (clearTracker s) := rfl

theorem execReset_withPast (s : State) : exec .reset (withPast x s) = onNext (withPast x) (exec .reset s) := by
  simp only [exec_reset_eq, onNext, withPast_params, clearDisplay_withPast, emit_withPast, clearTracker_withPast]

theorem exec_withPast (i : Instr) (s : State) : exec i (withPast x s) = onNext (withPast x) (exec i s) := by
  by_cases hi : isRelayWord i = true
  · obtain ⟨rw, sb, up, lo, rfl⟩ := exists_relayInstr hi
    rw [← dispatchRelay_eq_exec, ← dispatchRelay_eq_exec]
    exact dispatchRelay_withPast x rw sb up lo s
  cases i with
  | byteIn => exact execByteIn_withPast x _ s
  | frameB0 ign chHi => exact execFrameB0_withPast x ign chHi s
  | frameB1 => exact execFrameB1_withPast x _ _ s
  | frameB2 => exact execFrameB2_withPast x _ s
  | frameB3 => exact execFrameB3_withPast x _ s
  | keyIn => exact execKeyIn_withPast x _ s
  | transportStatus => exact execTransportStatus_withPast x _ _ s
  | reset => exact execReset_withPast x s
  | dispStrobe => exact dispatchRelay_withPast x _ _ _ _ s
  | ch10SetBit | ch10Write | ch11SetBit | ch11Write => rfl
  | indcStrobe => exact congrArg _ (presentAll_withPast x s)
  | trackerSetBit => exact congrArg _ (trkSetIndexed_withPast x _ _ s)
  | unassigned0 | unassignedF | standby | keyboardStrobe | proceed => exact congrArg _ (refuse_withPast x _ s)
  | _ => exact absurd rfl hi

theorem step_withPast (s : State) : step (withPast x s) = onNext (withPast x) (step s) := by
  unfold step takeInput
  rw [withPast_input]
  cases s.input with
  | nil => rfl
  | cons r rest =>
    dsimp only
    cases decodeRecord r with
    | ok i => exact exec_withPast x i { s with input := rest }
    | error e => exact congrArg _ (refuse_withPast x _ { s with input := rest })

end Past

/-- A step is the step from empty outputs, with the outputs of before put back in front. -/
theorem step_eq_silent {s t : State} (h : step s = .next t) : ∃ u, step (silent s) = .next u ∧ t = withPast s u := by
  have hs := step_withPast s (silent s)
  rw [withPast_silent, h] at hs
  exact onNext_eq_next hs.symm

/-- Settles O16: every operation commutes with `withPast` (`step_withPast`), and a state is its own past put before its
silent part. -/
theorem outputsAreNeverRead : Obligations.OutputsAreNeverRead := by
  intro s t h
  obtain ⟨u, hu, rfl⟩ := step_eq_silent h
  exact ⟨u, hu, after_withPast s u⟩

/-! ## What grows and what stays -/

theorem step_params_input {s t : State} (h : step s = .next t) : t.params = s.params ∧ t.input = s.input.tail := by
  rcases step_cases h with ⟨hi, rfl⟩ | ⟨r, rest, hi, ⟨i, -, hx⟩ | ⟨-, rfl⟩⟩
  · simp [hi]
  · exact ⟨(exec_touches hx).params, by rw [(exec_touches hx).input, hi]; rfl⟩
  · simp [hi]

/-- Settles O15: by O16's lemma the new outputs stand after the old ones; the parameters and the input are left alone by
every instruction. -/
theorem outputsOnlyGrowAndRefusalSticks : Obligations.OutputsOnlyGrowAndRefusalSticks := by
  intro s t h
  obtain ⟨hparams, hinput⟩ := step_params_input h
  obtain ⟨u, -, rfl⟩ := step_eq_silent h
  obtain ⟨-, hout, hkout, hcond, hrefusals, hrefused⟩ := after_withPast s u
  exact ⟨fun role => ⟨_, (hout role).symm⟩, ⟨_, hkout.symm⟩, ⟨_, hcond.symm⟩, ⟨_, hrefusals.symm⟩,
    fun hs => by rw [hrefused, hs, Bool.true_or], hparams, hinput⟩

end Sys2Proof.Machine
end

section
/-! The invariants of 10_state.md R23 (b), (c), (e), of the parser (R83, R84) and of the refusal mark (R96), each kept
by itself: the signs and the mark along the chain of shared operations, the parser by the position of a byte. -/

namespace Sys2Proof.Machine

open Sys2Proof.Safety

/-- A row's net sign agrees with its two flags (R23 (b), (c)). -/
structure RowAgrees (p m : Bool) (n : Sign) : Prop where
  blank_iff : n = .blank ↔ p = false ∧ m = false
  plus_alone : p = true → m = false → n = .plus
  minus_alone : p = false → m = true → n = .minus

def SignsAgree (s : State) : Prop := ∀ r, RowAgrees (rowGet s.plus r) (rowGet s.minus r) (rowGet s.sout r)

/-- The accumulator holds only what the parser has accepted so far (R23 (e), R83, R84). -/
structure ParserFits (s : State) : Prop where
  at_p0 : s.fpos = .p0 → s.fchan = 0 ∧ s.fdata = 0
  at_p1 : s.fpos = .p1 → s.fchan.extractLsb' 0 3 = 0 ∧ s.fdata = 0
  at_p2 : s.fpos = .p2 → s.fdata.extractLsb' 0 12 = 0
  at_p3 : s.fpos = .p3 → s.fdata.extractLsb' 0 6 = 0

def RefusalAgrees (s : State) : Prop := s.refused = true ↔ s.refusals ≠ []

theorem inv_iff (s : State) : Inv s ↔ paramsOk s.params = true ∧ SignsAgree s ∧ ParserFits s ∧ RefusalAgrees s := by
  constructor
  · intro h
    exact ⟨h.params, fun r => ⟨h.blank_iff r, h.plus_alone r, h.minus_alone r⟩,
      ⟨h.at_p0, h.at_p1, h.at_p2, h.at_p3⟩, h.refused_iff⟩
  · rintro ⟨hparams, hsigns, hparser, hrefusal⟩
    exact ⟨hparams, fun r => (hsigns r).blank_iff, fun r => (hsigns r).plus_alone, fun r => (hsigns r).minus_alone,
      hparser.at_p0, hparser.at_p1, hparser.at_p2, hparser.at_p3, hrefusal⟩

/-! ## Signs -/

/-- Whatever the flags and the previous sign were, R64 gives a sign that agrees with the flags. -/
theorem netSign_rowAgrees (prec : SignPrecedence) (p m : Bool) (prev : Sign) (w : SignFlag) (sb : Bool) :
    RowAgrees p m (netSign prec p m prev w sb) := by
  have both : netSign prec true true prev w sb ≠ .blank := by
    cases w <;> simp only [netSign, flagSign] <;> split_ifs <;> simp_all
  cases p <;> cases m
  case true.true => exact ⟨by simp [both], by simp, by simp⟩
  all_goals constructor <;> simp [netSign]

theorem SignsAgree.of_eq {s t : State} (h : SignsAgree s) (hp : t.plus = s.plus) (hm : t.minus = s.minus)
    (hs : t.sout = s.sout) : SignsAgree t := fun r => by
  rw [hp, hm, hs]
  exact h r

theorem signUpdate_signsAgree {s : State} (h : SignsAgree s) (r : Row) (w : SignFlag) (sb : Bool) :
    SignsAgree (signUpdate r w sb s) := by
  intro q
  rw [signUpdate_plus, signUpdate_minus, signUpdate_sout, rowGet_rowSet]
  by_cases hq : q = r
  · subst hq
    rw [if_pos rfl]
    exact netSign_rowAgrees _ _ _ _ w sb
  · have hother := h q
    cases w <;> simpa [offerSign, hq] using hother

theorem Does.signsAgree {s t : State} (h : Does s t) (hs : SignsAgree s) : SignsAgree t := by
  induction h with
  | refl | plain | report | refuse | send => exact hs
  | trans _ _ ihs iht => exact iht (ihs hs)
  | sign r w sb => exact signUpdate_signsAgree hs r w sb
  | digit | lamp | bit => exact hs.of_eq (by simp) (by simp) (by simp)
  | reset hreset =>
    rw [exec_reset_eq] at hreset
    injection hreset with hreset
    subst hreset
    intro r
    cases r <;> constructor <;> simp [rowGet]

/-! ## The refusal mark -/

theorem RefusalAgrees.of_eq {s t : State} (h : RefusalAgrees s) (hm : t.refused = s.refused)
    (hl : t.refusals = s.refusals) : RefusalAgrees t := by
  unfold RefusalAgrees
  rw [hm, hl]
  exact h

theorem refuse_refusalAgrees (r : RefusalReason) (s : State) : RefusalAgrees (refuse r s) := by
  simp [RefusalAgrees]

theorem Does.refusalAgrees {s t : State} (h : Does s t) (hs : RefusalAgrees s) : RefusalAgrees t := by
  induction h with
  | refl | plain | report | send => exact hs
  | trans _ _ ihs iht => exact iht (ihs hs)
  | refuse r s => exact refuse_refusalAgrees r s
  | digit | sign | lamp | bit => exact hs.of_eq (by simp) (by simp)
  | reset hreset =>
    obtain ⟨hm, hl⟩ := (execReset_touches hreset).refusal rfl
    exact hs.of_eq hm hl

/-! ## The parser -/

theorem ParserFits.of_eq {s t : State} (h : ParserFits s) (hp : t.fpos = s.fpos) (hc : t.fchan = s.fchan)
    (hd : t.fdata = s.fdata) : ParserFits t := by
  constructor <;> rw [hp]
  · rw [hc, hd]; exact h.at_p0
  · rw [hc, hd]; exact h.at_p1
  · rw [hd]; exact h.at_p2
  · rw [hd]; exact h.at_p3

theorem clearParser_parserFits (s : State) : ParserFits (clearParser s) := by
  constructor <;> simp

theorem extractLsb'_zero_shiftLeft {w : Nat} (a : BitVec w) (n : Nat) : (a <<< n).extractLsb' 0 n = 0 := by
  apply BitVec.eq_of_getLsbD_eq
  intro i hi
  simp [hi]

/-- If the low `n` bits are zero then so are the low `k ≤ n`. -/
theorem extractLsb'_zero_of_le {w n k : Nat} {a : BitVec w} (hk : k ≤ n) (h : a.extractLsb' 0 n = 0) :
    a.extractLsb' 0 k = 0 := by
  apply BitVec.eq_of_getLsbD_eq
  intro i hi
  have hin : i < n := by omega
  have hbit : a.getLsbD i = false := by simpa [hin] using congrArg (·.getLsbD i) h
  simp [hbit]

/-- Dispatching a frame leaves the parser alone. -/
theorem frameDispatch_parser {ch : BitVec 7} {d : BitVec 15} {s t : State} (h : frameDispatch ch d s = .next t) :
    t.fpos = s.fpos ∧ t.fchan = s.fchan ∧ t.fdata = s.fdata := by
  rcases frameDispatch_cases h with h | rfl | rfl | rfl
  · exact (dispatchRelay_touches (writesAtLeast_dispStrobe _) h).parser rfl
  all_goals simp

theorem ByteDoes.parserFits {s t : State} (h : ByteDoes s t) (hs : ParserFits s) : ParserFits t := by
  cases h with
  | first chHi => constructor <;> simp [extractLsb'_zero_shiftLeft]
  | second chLo dHi => constructor <;> simp [extractLsb'_zero_shiftLeft]
  | third dMid hp =>
    have hlow := extractLsb'_zero_of_le (k := 6) (by omega) (hs.at_p2 hp)
    constructor <;> simp [hlow, extractLsb'_zero_shiftLeft, BitVec.extractLsb'_or]
  | dropped => exact hs
  | frameDropped => exact clearParser_parserFits s
  | frame _ hd =>
    obtain ⟨hp, hc, hdata⟩ := frameDispatch_parser hd
    exact (clearParser_parserFits s).of_eq hp hc hdata

theorem exec_parserFits {i : Instr} {s t : State} (h : exec i s = .next t) (hs : ParserFits s) : ParserFits t := by
  by_cases hi : isByte i = true
  · exact (exec_byteDoes hi h).parserFits hs
  · obtain ⟨hp, hc, hd⟩ := (exec_touches h).parser (by simpa using hi)
    exact hs.of_eq hp hc hd

/-! ## Every step -/

theorem exec_keeps_inv {i : Instr} {s t : State} (h : exec i s = .next t) (hs : Inv s) : Inv t := by
  obtain ⟨hparams, hsigns, hparser, hrefusal⟩ := (inv_iff s).mp hs
  refine (inv_iff t).mpr ⟨(exec_touches h).params ▸ hparams, ?_, exec_parserFits h hparser, ?_⟩
  · rcases exec_does h with hd | ⟨r, up, rfl⟩
    · exact hd.signsAgree hsigns
    · exact hsigns
  · rcases exec_does h with hd | ⟨r, up, rfl⟩
    · exact hd.refusalAgrees hrefusal
    · exact hrefusal

/-- `Inv` does not speak of the pending input. -/
theorem inv_takeInput {s : State} (h : Inv s) (rest : List Record) : Inv { s with input := rest } :=
  ⟨h.params, h.blank_iff, h.plus_alone, h.minus_alone, h.at_p0, h.at_p1, h.at_p2, h.at_p3, h.refused_iff⟩

theorem refuse_keeps_inv {s : State} (h : Inv s) (r : RefusalReason) : Inv (refuse r s) :=
  ⟨h.params, h.blank_iff, h.plus_alone, h.minus_alone, h.at_p0, h.at_p1, h.at_p2, h.at_p3, refuse_refusalAgrees r s⟩

/-- Settles O14: an idle step, an executed instruction and a refused record each keep `Inv`. -/
theorem stepKeepsInvariant : Obligations.StepKeepsInvariant := by
  intro s t hs h
  rcases step_cases h with ⟨-, rfl⟩ | ⟨r, rest, -, ⟨i, -, hx⟩ | ⟨-, rfl⟩⟩
  · exact hs
  · exact exec_keeps_inv hx (inv_takeInput hs rest)
  · exact refuse_keeps_inv (inv_takeInput hs rest) _

theorem powerOn_inv {p : Params} (hp : paramsOk p = true) : Inv (State.powerOn p) := by
  refine (inv_iff _).mpr ⟨hp, fun r => ?_, clearParser_parserFits (State.powerOn p), ?_⟩
  · cases r <;> constructor <;> simp [State.powerOn, rowGet]
  · simp [RefusalAgrees, State.powerOn]

/-- Settles O13: power-on has blank signs, a clear parser and no refusal; the free command codes of State.reset are in
their domain by `paramsOk_reset`. -/
theorem invariantHoldsAtPowerOn : Obligations.InvariantHoldsAtPowerOn :=
  ⟨fun _ => powerOn_inv, powerOn_inv paramsOk_reset⟩

end Sys2Proof.Machine
end

section
/-! The command bytes of one role are told apart by their names (45_command_encoder.md R88), so the last value commanded
to a name (10_state.md R23 (f)) is changed by that name's commands and its role's reset alone. -/

namespace Sys2Proof.Machine

open Sys2Proof.Safety

/-! ## Telling commands apart -/

theorem codeOf_injOn {p : Params} (hp : paramsOk p = true) {m n : CmdName} (hm : m ∈ cmdNames p) (hn : n ∈ cmdNames p)
    (hrole : cmdRole m = cmdRole n) (hcode : codeOf p.cmdCodes m = codeOf p.cmdCodes n) : m = n := by
  simp only [paramsOk, codesOk, Bool.and_eq_true, List.all_eq_true] at hp
  obtain ⟨-, -, hdistinct⟩ := hp
  simpa [hrole, hcode] using hdistinct m hm n hn

theorem resetCode_length {p : Params} (hp : paramsOk p = true) (role : Role) :
    (codeOf p.cmdCodes (.reset role)).length = 1 := by
  simp only [paramsOk, codesOk, Bool.and_eq_true, beq_iff_eq] at hp
  obtain ⟨-, ⟨⟨-, hdisplay⟩, hindicator⟩, -⟩ := hp
  cases role
  · exact hdisplay
  · exact hindicator

/-- Value commands that are equal have the same name and the same value byte. -/
theorem valueBytes_inj {p : Params} (hp : paramsOk p = true) {m n : CmdName} (hm : m ∈ cmdNames p)
    (hn : n ∈ cmdNames p) (hrole : cmdRole m = cmdRole n) {v w : Byte} (h : valueBytes p m v = valueBytes p n w) :
    m = n ∧ v = w := by
  obtain ⟨hcode, htail⟩ := List.append_inj' h (by simp)
  exact ⟨codeOf_injOn hp hm hn hrole hcode, by simpa using htail⟩

/-- A reset command, of one byte and the terminator, is shorter than any value command. -/
theorem resetCmd_ne_valueBytes {p : Params} (hp : paramsOk p = true) (role : Role) (n : CmdName) (v : Byte) :
    RESETCMD p role ≠ valueBytes p n v := by
  intro h
  have hlen := congrArg List.length h
  simp only [RESETCMD, valueBytes, List.length_append, List.length_cons, resetCode_length hp] at hlen
  omega

/-! ## The last value of a name -/

/-- The value of name `n` after one more command. -/
def valueAfter (p : Params) (n : CmdName) (v : Bool) (c : Bytes) : Bool :=
  if c = valueBytes p n 0x31 then true
  else if c = valueBytes p n 0x30 ∨ c = RESETCMD p (cmdRole n) then false
  else v

theorem lastValue_append (p : Params) (n : CmdName) (cmds : List Bytes) (c : Bytes) :
    lastValue p n (cmds ++ [c]) = valueAfter p n (lastValue p n cmds) c :=
  List.foldl_concat ..

/-- The value byte of a lamp or activity value (R91, R92). -/
abbrev boolValueByte (v : Bool) : Byte := BitVec.ofNat 8 (0x30 + v.toNat)

theorem valueAfter_same (p : Params) (n : CmdName) (old v : Bool) :
    valueAfter p n old (valueBytes p n (boolValueByte v)) = v := by
  cases v <;> simp [valueAfter, valueBytes, boolValueByte]

theorem valueAfter_other {p : Params} (hp : paramsOk p = true) {m n : CmdName} (hm : m ∈ cmdNames p)
    (hn : n ∈ cmdNames p) (hrole : cmdRole m = cmdRole n) (hne : m ≠ n) (old : Bool) (b : Byte) :
    valueAfter p n old (valueBytes p m b) = old := by
  have hvalue : ∀ w, valueBytes p m b ≠ valueBytes p n w := fun w h => hne (valueBytes_inj hp hm hn hrole h).1
  have hreset := (resetCmd_ne_valueBytes hp (cmdRole n) m b).symm
  simp [valueAfter, hvalue, hreset]

theorem valueAfter_reset {p : Params} (hp : paramsOk p = true) (n : CmdName) (old : Bool) :
    valueAfter p n old (RESETCMD p (cmdRole n)) = false := by
  simp [valueAfter, resetCmd_ne_valueBytes hp]

/-- The last value commanded to `n` in a state's output of the name's role. -/
def heldValue (n : CmdName) (s : State) : Bool := lastValue s.params n (roleGet s.out (cmdRole n))

section Emission
variable {s : State} {n : CmdName}

theorem heldValue_emit (hconn : roleGet s.conn (cmdRole n) = true) (c : Bytes) :
    heldValue n (emit (cmdRole n) c s) = valueAfter s.params n (heldValue n s) c := by
  simp [heldValue, emit, hconn, lastValue_append]

theorem heldValue_emit_otherRole {role : Role} (hne : role ≠ cmdRole n) (c : Bytes) :
    heldValue n (emit role c s) = heldValue n s := by
  unfold heldValue emit
  split <;> simp [hne.symm]

/-- A dropped command leaves the last value as it was. -/
theorem heldValue_emit_dropped {role : Role} (hconn : roleGet s.conn role = false) (c : Bytes) :
    heldValue n (emit role c s) = heldValue n s := by
  simp [heldValue, emit, hconn]

theorem heldValue_emit_other (hp : paramsOk s.params = true) {m : CmdName} (hm : m ∈ cmdNames s.params)
    (hn : n ∈ cmdNames s.params) (hne : m ≠ n) (b : Byte) :
    heldValue n (emit (cmdRole m) (valueBytes s.params m b) s) = heldValue n s := by
  by_cases hrole : cmdRole m = cmdRole n
  · cases hconn : roleGet s.conn (cmdRole m) with
    | false => exact heldValue_emit_dropped hconn _
    | true => rw [hrole, heldValue_emit (hrole ▸ hconn), valueAfter_other hp hm hn hrole hne]
  · exact heldValue_emit_otherRole hrole _

/-- A value command from a connected role: its own name takes the value, every other name keeps its own. -/
theorem heldValue_emit_value (hp : paramsOk s.params = true) {m : CmdName} (hm : m ∈ cmdNames s.params)
    (hn : n ∈ cmdNames s.params) (hconn : roleGet s.conn (cmdRole m) = true) (v : Bool) :
    heldValue n (emit (cmdRole m) (valueBytes s.params m (boolValueByte v)) s) = if m = n then v else heldValue n s := by
  split
  case isTrue e => subst e; rw [heldValue_emit hconn, valueAfter_same]
  case isFalse hne => exact heldValue_emit_other hp hm hn hne _

theorem heldValue_emit_reset (hp : paramsOk s.params = true) (hconn : roleGet s.conn (cmdRole n) = true) :
    heldValue n (emit (cmdRole n) (RESETCMD s.params (cmdRole n)) s) = false := by
  rw [heldValue_emit hconn, valueAfter_reset hp]

end Emission

/-! ## The names of the two maps -/

theorem digit_mem_cmdNames (p : Params) (f : DigitField) : CmdName.digit f ∈ cmdNames p := by
  have hf : f ∈ digitFields := by cases f <;> decide
  simp [cmdNames, hf]

theorem sign_mem_cmdNames (p : Params) (r : Row) : CmdName.sign r ∈ cmdNames p := by
  cases r <;> simp [cmdNames]

theorem acty_mem_cmdNames (p : Params) : CmdName.acty ∈ cmdNames p := by simp [cmdNames]

theorem mem_lampBits (b : LampBit) : b ∈ lampBits := by cases b <;> decide

theorem lampGet_mem_lamp12Names (p : Params) (b : LampBit) : lampGet p.lamp12Map b ∈ lamp12Names p :=
  List.mem_map_of_mem (mem_lampBits b)

theorem mem_ch11Lamps {p : Params} {k : RegBit} {n : Lamp} (h : p.ch11Map[k] = some (.lamp n)) : n ∈ ch11Lamps p := by
  refine List.mem_filterMap.mpr ⟨some (.lamp n), ?_, rfl⟩
  rw [← h]
  simp

theorem lamp12_mem_cmdNames (p : Params) (b : LampBit) : CmdName.lamp (lampGet p.lamp12Map b) ∈ cmdNames p := by
  simp [cmdNames, lampGet_mem_lamp12Names]

theorem ch11_mem_cmdNames {p : Params} {k : RegBit} {n : Lamp} (h : p.ch11Map[k] = some (.lamp n)) :
    CmdName.lamp n ∈ cmdNames p := by
  simp [cmdNames, mem_ch11Lamps h]

/-- `LAMP12_MAP` is injective: six names for six bits, and each occurs (R42). -/
theorem lamp12Map_injective {p : Params} (hp : paramsOk p = true) {b c : LampBit}
    (h : lampGet p.lamp12Map b = lampGet p.lamp12Map c) : b = c := by
  simp only [paramsOk, lamp12MapOk, Bool.and_eq_true, List.all_eq_true, List.contains_iff_mem] at hp
  obtain ⟨⟨honto, -⟩, -⟩ := hp
  have hnames : lamp12NameSet.Nodup := by decide
  have hperm : lamp12NameSet.Perm (lamp12Names p) :=
    (hnames.subperm honto).perm_of_length_le (by simp [lamp12Names, lampBits, lamp12NameSet])
  exact List.inj_on_of_nodup_map (hperm.nodup_iff.mp hnames) (mem_lampBits b) (mem_lampBits c) h

/-- An element that a list holds once stands at one place. -/
theorem index_unique_of_count_eq_one {α : Type} [BEq α] [LawfulBEq α] {l : List α} {a : α} (h : l.count a = 1)
    {j k : Fin l.length} (hj : l.get j = a) (hk : l.get k = a) : j = k := by
  have once : ∀ x y : Fin l.length, l.get x = a → l.get y = a → ¬x < y := fun x y hx hy hlt => by
    have hdup : l.Duplicate a := List.duplicate_iff_exists_distinct_get.mpr ⟨x, y, hlt, hx.symm, hy.symm⟩
    have htwo : 2 ≤ l.count a := List.replicate_sublist_iff.mp (List.duplicate_iff_sublist.mp hdup)
    omega
  exact le_antisymm (not_lt.mp (once k j hk hj)) (not_lt.mp (once j k hj hk))

/-- `CH11_MAP` gives COMP_ACTY to one bit only (R43). -/
theorem compActy_unique {p : Params} (hp : paramsOk p = true) {j k : RegBit} (hj : p.ch11Map[j] = some .compActy)
    (hk : p.ch11Map[k] = some .compActy) : j = k := by
  simp only [paramsOk, ch11MapOk, Bool.and_eq_true, beq_iff_eq] at hp
  obtain ⟨⟨-, hcount⟩, -⟩ := hp
  have hlen : p.ch11Map.toList.length = 15 := by simp
  have heq := index_unique_of_count_eq_one hcount (j := j.cast hlen.symm) (k := k.cast hlen.symm)
    (by simpa using hj) (by simpa using hk)
  exact Fin.cast_injective _ heq

end Sys2Proof.Machine
end

section
/-! R23 (f) of 10_state.md for the lamps that are commanded from one place (log entry 17): each shared operation keeps
it while both roles are connected. -/

namespace Sys2Proof.Machine

open Sys2Proof.Safety

/-- `CommandsAgree` in terms of the values held in the outputs. -/
theorem commandsAgree_of_held {p : Params} {t : State} (hp : t.params = p)
    (lamps : ∀ b, lampGet p.lamp12Map b ∉ ch11Lamps p →
      lampGet t.l12 b = heldValue (.lamp (lampGet p.lamp12Map b)) t)
    (trackerLamps : ∀ (k : RegBit) (n : Lamp), p.ch11Map[k] = some (.lamp n) → n ∉ lamp12Names p →
      (∀ j : RegBit, p.ch11Map[j] = some (.lamp n) → j = k) → getBit t.s11 k = heldValue (.lamp n) t)
    (acty : ∀ k : RegBit, p.ch11Map[k] = some .compActy → getBit t.s11 k = heldValue .acty t) : CommandsAgree t := by
  subst hp
  exact ⟨lamps, trackerLamps, acty⟩

section Operations
variable {s : State}

/-- A display command of any name but COMP_ACTY is about neither map. -/
theorem emit_display_commandsAgree (hp : paramsOk s.params = true) (h : CommandsAgree s) {m : CmdName}
    (hm : m ∈ cmdNames s.params) (hrole : cmdRole m = .display) (hne : m ≠ .acty) (b : Byte) :
    CommandsAgree (emit .display (valueBytes s.params m b) s) := by
  have hlamp : ∀ n, heldValue (.lamp n) (emit .display (valueBytes s.params m b) s) = heldValue (.lamp n) s :=
    fun n => heldValue_emit_otherRole (by simp [cmdRole]) _
  have hacty := heldValue_emit_other hp hm (acty_mem_cmdNames s.params) hne b
  rw [hrole] at hacty
  refine commandsAgree_of_held (emit_params ..) (fun c hc => ?_) (fun k n hk hn hone => ?_) (fun k hk => ?_)
  · rw [hlamp, emit_l12]; exact h.lamps c hc
  · rw [hlamp, emit_s11]; exact h.trackerLamps k n hk hn hone
  · rw [hacty, emit_s11]; exact h.acty k hk

theorem digitUpdate_commandsAgree (hp : paramsOk s.params = true) (h : CommandsAgree s) (f : DigitField)
    (p : BitVec 5) : CommandsAgree (digitUpdate f p s) := by
  unfold digitUpdate
  split
  case h_1 => exact ⟨h.lamps, h.trackerLamps, h.acty⟩
  case h_2 d _ =>
    rw [encodeDigit_eq]
    exact emit_display_commandsAgree (s := { s with dcache := cacheSet s.dcache f d }) hp
      ⟨h.lamps, h.trackerLamps, h.acty⟩ (digit_mem_cmdNames s.params f) rfl (by simp) _

theorem offerSign_commandsAgree (h : CommandsAgree s) (r : Row) (w : SignFlag) (sb : Bool) :
    CommandsAgree (offerSign r w sb s) := by
  cases w <;> exact ⟨h.lamps, h.trackerLamps, h.acty⟩

theorem commandSign_commandsAgree (hp : paramsOk s.params = true) (h : CommandsAgree s) (r : Row) (n : Sign) :
    CommandsAgree (commandSign r n s) := by
  unfold commandSign
  split
  · exact h
  · rw [encodeSign_eq]
    exact emit_display_commandsAgree (s := { s with sout := rowSet s.sout r n }) hp
      ⟨h.lamps, h.trackerLamps, h.acty⟩ (sign_mem_cmdNames s.params r) rfl (by simp) _

theorem signUpdate_commandsAgree (hp : paramsOk s.params = true) (h : CommandsAgree s) (r : Row) (w : SignFlag)
    (sb : Bool) : CommandsAgree (signUpdate r w sb s) :=
  commandSign_commandsAgree (by rwa [offerSign_params]) (offerSign_commandsAgree h r w sb) r _

theorem lampStep_commandsAgree (hp : paramsOk s.params = true) (hconn : ∀ role, roleGet s.conn role = true)
    (h : CommandsAgree s) (b : LampBit) (v : Bool) : CommandsAgree (lampStep b v s) := by
  unfold lampStep
  split
  · exact h
  rw [encodeLamp_eq]
  have held : ∀ n ∈ cmdNames s.params,
      heldValue n (emit .indicator (LAMP s.params (lampGet s.params.lamp12Map b) v)
        { s with l12 := lampSet s.l12 b v }) =
      if .lamp (lampGet s.params.lamp12Map b) = n then v else heldValue n s := fun n hn =>
    heldValue_emit_value (s := { s with l12 := lampSet s.l12 b v }) hp (lamp12_mem_cmdNames s.params b) hn
      (hconn .indicator) v
  refine commandsAgree_of_held (emit_params ..) (fun c hc => ?_) (fun k n hk hn hone => ?_) (fun k hk => ?_)
  · rw [held _ (lamp12_mem_cmdNames s.params c), emit_l12, lampGet_lampSet]
    by_cases hcb : c = b
    · subst hcb; simp
    · have hname : lampGet s.params.lamp12Map b ≠ lampGet s.params.lamp12Map c :=
        fun e => hcb (lamp12Map_injective hp e).symm
      rw [if_neg hcb, if_neg (by simpa using hname)]
      exact h.lamps c hc
  · have hname : lampGet s.params.lamp12Map b ≠ n := fun e => hn (e ▸ lampGet_mem_lamp12Names s.params b)
    rw [held _ (ch11_mem_cmdNames hk), emit_s11, if_neg (by simpa using hname)]
    exact h.trackerLamps k n hk hn hone
  · rw [held _ (acty_mem_cmdNames s.params), emit_s11, if_neg (by simp)]
    exact h.acty k hk

/-- The command name of an entry of `CH11_MAP` (R43). -/
def entryName : Option Ch11Entry → Option CmdName
  | none => none
  | some (.lamp n) => some (.lamp n)
  | some .compActy => some .acty

theorem entryName_eq_lamp {e : Option Ch11Entry} {n : Lamp} : entryName e = some (.lamp n) ↔ e = some (.lamp n) := by
  rcases e with _ | _ | _ <;> simp [entryName]

theorem entryName_eq_acty {e : Option Ch11Entry} : entryName e = some .acty ↔ e = some .compActy := by
  rcases e with _ | _ | _ <;> simp [entryName]

/-- The command of a changed Channel-11 bit (R80) sets the value of its entry's name. -/
theorem trackerCommand_heldValue (hp : paramsOk s.params = true) (hconn : ∀ role, roleGet s.conn role = true)
    (k : RegBit) (v : Bool) {n : CmdName} (hn : n ∈ cmdNames s.params) :
    heldValue n (trackerCommand s.params.ch11Map[k] v s) =
      if entryName s.params.ch11Map[k] = some n then v else heldValue n s := by
  cases he : s.params.ch11Map[k] with
  | none => rfl
  | some e =>
    cases e with
    | lamp l =>
      simp only [trackerCommand, encodeLamp_eq, entryName, Option.some.injEq]
      exact heldValue_emit_value hp (ch11_mem_cmdNames he) hn (hconn .indicator) v
    | compActy =>
      simp only [trackerCommand, encodeActy_eq, entryName, Option.some.injEq]
      exact heldValue_emit_value hp (acty_mem_cmdNames s.params) hn (hconn .display) v

theorem trkSetBit_commandsAgree (hp : paramsOk s.params = true) (hconn : ∀ role, roleGet s.conn role = true)
    (h : CommandsAgree s) (k : RegBit) (v : Bool) : CommandsAgree (trkSetBit k v s) := by
  unfold trkSetBit
  split
  · exact h
  have held : ∀ n ∈ cmdNames s.params,
      heldValue n (trackerCommand s.params.ch11Map[k] v { s with s11 := setBit s.s11 k v }) =
      if entryName s.params.ch11Map[k] = some n then v else heldValue n s := fun n hn =>
    trackerCommand_heldValue (s := { s with s11 := setBit s.s11 k v }) hp hconn k v hn
  refine commandsAgree_of_held (trackerCommand_params ..) (fun c hc => ?_) (fun j n hj hn hone => ?_) (fun j hj => ?_)
  · have hname : entryName s.params.ch11Map[k] ≠ some (.lamp (lampGet s.params.lamp12Map c)) :=
      fun e => hc (mem_ch11Lamps (entryName_eq_lamp.mp e))
    rw [held _ (lamp12_mem_cmdNames s.params c), trackerCommand_l12, if_neg hname]
    exact h.lamps c hc
  · rw [held _ (ch11_mem_cmdNames hj), trackerCommand_s11, getBit_setBit]
    by_cases hjk : j = k
    · rw [if_pos hjk, if_pos (entryName_eq_lamp.mpr (hjk ▸ hj))]
    · rw [if_neg hjk, if_neg fun e => hjk (hone k (entryName_eq_lamp.mp e)).symm]
      exact h.trackerLamps j n hj hn hone
  · rw [held _ (acty_mem_cmdNames s.params), trackerCommand_s11, getBit_setBit]
    by_cases hjk : j = k
    · rw [if_pos hjk, if_pos (entryName_eq_acty.mpr (hjk ▸ hj))]
    · rw [if_neg hjk, if_neg fun e => hjk (compActy_unique hp hj (entryName_eq_acty.mp e))]
      exact h.acty j hj

/-- RESET clears the lamps and the tracker, and both reset commands clear the values commanded (R112). -/
theorem execReset_commandsAgree (hp : paramsOk s.params = true) (hconn : ∀ role, roleGet s.conn role = true)
    {t : State} (ht : exec .reset s = .next t) : CommandsAgree t := by
  rw [exec_reset_eq] at ht
  injection ht with ht
  subst ht
  have hdisplay : heldValue .acty (emit .display (encodeReset s.params .display) (clearDisplay s)) = false :=
    heldValue_emit_reset (n := .acty) (s := clearDisplay s) hp (hconn .display)
  have hindicator : ∀ u : State, u.params = s.params → u.conn = s.conn → ∀ n,
      heldValue (.lamp n) (emit .indicator (encodeReset s.params .indicator) u) = false := fun u hup huc n =>
    hup ▸ heldValue_emit_reset (n := .lamp n) (hup ▸ hp) (huc ▸ hconn .indicator)
  refine commandsAgree_of_held (p := s.params) (by simp) (fun c hc => ?_) (fun k n hk hn hone => ?_) (fun k hk => ?_)
  · rw [hindicator _ (by simp) (by simp)]
    cases c <;> simp [lampGet]
  · rw [hindicator _ (by simp) (by simp), emit_s11, clearTracker_s11, getBit_zero]
  · rw [emit_s11, clearTracker_s11, getBit_zero, heldValue_emit_otherRole (by simp [cmdRole])]
    exact hdisplay.symm

end Operations

/-! ## Every step -/

theorem Does.params_conn {s t : State} (h : Does s t) : t.params = s.params ∧ t.conn = s.conn := by
  induction h with
  | trans _ _ hs ht => exact ⟨ht.1.trans hs.1, ht.2.trans hs.2⟩
  | reset h => exact ⟨(execReset_touches h).params, (execReset_touches h).conn (by simp)⟩
  | _ => constructor <;> simp

theorem Does.commandsAgree {s t : State} (h : Does s t) (hp : paramsOk s.params = true)
    (hconn : ∀ role, roleGet s.conn role = true) (hs : CommandsAgree s) : CommandsAgree t := by
  induction h with
  | refl | plain | report | refuse | send => exact ⟨hs.lamps, hs.trackerLamps, hs.acty⟩
  | trans h _ ihs iht =>
    obtain ⟨hpe, hce⟩ := h.params_conn
    exact iht (hpe ▸ hp) (hce ▸ hconn) (ihs hp hconn hs)
  | digit f p => exact digitUpdate_commandsAgree hp hs f p
  | sign r w sb => exact signUpdate_commandsAgree hp hs r w sb
  | lamp b v => exact lampStep_commandsAgree hp hconn hs b v
  | bit k v => exact trkSetBit_commandsAgree hp hconn hs k v
  | reset h => exact execReset_commandsAgree hp hconn h

/-- Settles O51: the shared operations keep it, and a change of a connection flag, a refusal or an idle step writes no
lamp and no output. -/
theorem stepKeepsCommandsAgreeing : Obligations.StepKeepsCommandsAgreeing := by
  intro s t hp hconn hs h
  rcases step_cases h with ⟨-, rfl⟩ | ⟨r, rest, -, ⟨i, -, hx⟩ | ⟨-, rfl⟩⟩
  · exact hs
  · have hs' : CommandsAgree { s with input := rest } := ⟨hs.lamps, hs.trackerLamps, hs.acty⟩
    rcases exec_does hx with hd | ⟨r, up, rfl⟩
    · exact hd.commandsAgree hp hconn hs'
    · exact ⟨hs.lamps, hs.trackerLamps, hs.acty⟩
  · exact ⟨hs.lamps, hs.trackerLamps, hs.acty⟩

theorem powerOn_commandsAgree (p : Params) : CommandsAgree (State.powerOn p) where
  lamps b _ := by cases b <;> rfl
  trackerLamps k n _ _ _ := getBit_zero k
  acty k _ := getBit_zero k

/-- Settles O50: at power-on every lamp and stored bit is off and no command has been sent. -/
theorem commandsAgreeAtPowerOn : Obligations.CommandsAgreeAtPowerOn :=
  ⟨powerOn_commandsAgree, powerOn_commandsAgree _⟩

end Sys2Proof.Machine
end


section
/-! The register writes (20_memory.md R25 to R27, 40_channel_register.md) and the silence of a repeated indicator
update (20_memory.md R32): what each does bit by bit, and the records that name the writes. -/

namespace Sys2Proof.Machine

open Sys2Proof.Safety

/-! ## Records -/

theorem append_toNat {m n : Nat} (x : BitVec m) (y : BitVec n) : (x ++ y).toNat = x.toNat * 2 ^ n + y.toNat := by
  rw [BitVec.toNat_append, ← Nat.shiftLeft_add_eq_or_of_lt y.isLt, Nat.shiftLeft_eq]

theorem packOp_toNat (tag idx : BitVec 4) (arg : BitVec 16) :
    (packOp tag idx arg).toNat = tag.toNat * 2 ^ 28 + idx.toNat * 2 ^ 16 + arg.toNat := by
  have hrsv : (0 : BitVec 8).toNat = 0 := rfl
  simp only [packOp, packRecord, append_toNat, hrsv]
  omega

/-- The record of R48 written as a number is the record packed from its fields. -/
theorem recordOf_eq_packOp (tag idx : BitVec 4) (arg : BitVec 16) :
    recordOf tag.toNat idx.toNat arg.toNat = packOp tag idx arg := by
  rw [recordOf, ← packOp_toNat, BitVec.ofNat_toNat, BitVec.setWidth_eq]

theorem flagArg_toNat (v : Bool) : (flagArg v).toNat = v.toNat := by cases v <;> rfl

/-- The record of a set-bit operation, its value in `arg[0]`. -/
theorem recordOf_flag (tag idx : BitVec 4) (v : Bool) :
    recordOf tag.toNat idx.toNat v.toNat = packOp tag idx (flagArg v) := by
  rw [← flagArg_toNat, recordOf_eq_packOp]

theorem decodeRecord_ch10SetBit (i : BitVec 4) (v : Bool) :
    decodeRecord (recordOf 0x1 i.toNat v.toNat) = .ok (.ch10SetBit i v) :=
  (congrArg decodeRecord (recordOf_flag 0x1 i v)).trans (Laws.DecodeEncode.ch10SetBit i v rfl)

theorem decodeRecord_ch11SetBit (i : BitVec 4) (v : Bool) :
    decodeRecord (recordOf 0x4 i.toNat v.toNat) = .ok (.ch11SetBit i v) :=
  (congrArg decodeRecord (recordOf_flag 0x4 i v)).trans (Laws.DecodeEncode.ch11SetBit i v rfl)

theorem decodeRecord_ch10Write (w : BitVec 16) : decodeRecord (recordOf 0x2 0 w.toNat) = .ok (.ch10Write w) :=
  (congrArg decodeRecord (recordOf_eq_packOp 0x2 0 w)).trans (Laws.DecodeEncode.ch10Write w rfl)

theorem decodeRecord_ch11Write (w : BitVec 16) : decodeRecord (recordOf 0x5 0 w.toNat) = .ok (.ch11Write w) :=
  (congrArg decodeRecord (recordOf_eq_packOp 0x5 0 w)).trans (Laws.DecodeEncode.ch11Write w rfl)

/-! ## Per-bit writes -/

theorem setIndexed_zero (c : ChanWord) (v : Bool) : setIndexed c 0 v = c := by
  rw [setIndexed, regBitOf_zero]

/-- R26: the bit the index names takes the value, and every other bit is kept; index 0 names none. -/
theorem getBit_setIndexed (c : ChanWord) (i : BitVec 4) (v : Bool) (k : RegBit) :
    getBit (setIndexed c i v) k = if k.val + 1 = i.toNat then v else getBit c k := by
  unfold setIndexed
  split
  case h_1 hnone =>
    have hi : i = 0 := regBitOf_eq_none.mp hnone
    simp [hi]
  case h_2 j hj =>
    have hi : i.toNat = j.val + 1 := regBitOf_eq_some.mp hj
    simp only [getBit_setBit, hi, Nat.add_right_cancel_iff, Fin.ext_iff]

/-! ## The strobe -/

/-- The strobe emits one command for each changed mapped bit, so with one changed bit the command of that bit alone. -/
theorem presentAll_emitsAll_of_one_changed {s : State} {k : RegBit}
    (hk : ∀ j, getBit s.c11 j = getBit s.s11 j ↔ j ≠ k) :
    EmitsAll (trackerCmd s.params k (getBit s.c11 k)).toList s (presentAll s) := by
  obtain ⟨-, hemits⟩ := presentAll_step s
  have honly : ∀ j, (if getBit s.c11 j = getBit s.s11 j then none else trackerCmd s.params j (getBit s.c11 j)) =
      if j = k then trackerCmd s.params k (getBit s.c11 k) else none := fun j => by
    by_cases hj : j = k
    · subst hj; simp [hk]
    · simp [hk, hj]
  have hlist : ∀ e : Option (Role × Bytes), (allRegBits.filterMap fun j => if j = k then e else none) = e.toList := by
    intro e
    cases e <;> fin_cases k <;> rfl
  simpa only [honly, hlist] using hemits

/-- The example of R55: COMP_ACTY, bit 2, is set in `C11` and strobed from power-on. -/
theorem strobe_compActy {p : Params} (hmap : p.ch11Map[1] = some .compActy)
    (hconn : roleGet p.connAtPowerOn .display = true) :
    let u := presentAll { State.powerOn p with c11 := setIndexed 0 2 true }
    u.out.display = [ACTY p true] ∧ u.out.indicator = [] := by
  have hchanged : ∀ j : RegBit, getBit (setIndexed 0 2 true) j = getBit 0 j ↔ j ≠ 1 := by decide
  have hcmd : trackerCmd p 1 (getBit (setIndexed 0 2 true) 1) = some (.display, ACTY p true) := by
    have hentry : p.ch11Map[(1 : RegBit)] = some .compActy := hmap
    have hset : getBit (setIndexed 0 2 true) 1 = true := rfl
    rw [trackerCmd, hentry, hset]
  obtain ⟨hout, -⟩ : EmitsAll (trackerCmd p 1 (getBit (setIndexed 0 2 true) 1)).toList _ _ :=
    presentAll_emitsAll_of_one_changed (s := { State.powerOn p with c11 := setIndexed 0 2 true }) hchanged
  rw [hcmd] at hout
  have hdisplay : p.connAtPowerOn.display = true := hconn
  exact ⟨by simpa [State.powerOn, roleGet, hdisplay] using hout .display,
    by simpa [State.powerOn, roleGet] using hout .indicator⟩

/-! ## Whole-value writes -/

/-- R27: integer bit 15 has no register bit. -/
theorem assignWhole_ignores_bit15 (w : BitVec 16) : assignWhole (w ^^^ 0x8000#16) = assignWhole w := by
  have h15 : (0x8000#16).setWidth 15 = 0#15 := rfl
  rw [assignWhole, BitVec.setWidth_xor, h15, BitVec.xor_zero, assignWhole]

/-- R27: a field below bit 15 is the register's field. -/
theorem extractLsb'_assignWhole {start len : Nat} (h : start + len ≤ 15) (w : BitVec 16) :
    (assignWhole w).extractLsb' start len = w.extractLsb' start len :=
  BitVec.extractLsb'_setWidth_of_le h

/-! ## Repeated indicator updates -/

theorem presentAll_s11 (s : State) : (presentAll s).s11 = s.c11 := congrArg State.s11 (presentAll_step s).1

theorem presentAll_again (s : State) : presentAll (presentAll s) = presentAll s :=
  presentAll_of_eq _ (by rw [presentAll_c11, presentAll_s11])

theorem trkSetIndexed_again (i : BitVec 4) (v : Bool) (s : State) :
    trkSetIndexed i v (trkSetIndexed i v s) = trkSetIndexed i v s := by
  unfold trkSetIndexed
  split
  case h_1 => rfl
  case h_2 k _ =>
    obtain ⟨hsame, -⟩ := trkSetBit_step k v (trkSetBit k v s)
    exact hsame (by rw [trkSetBit_s11, if_pos rfl])

theorem lamp12Update_again (bit : LampBit → Bool) (s : State) :
    lamp12Update bit (lamp12Update bit s) = lamp12Update bit s := by
  obtain ⟨-, hlamps, -⟩ := lamp12Update_step bit s
  exact lamp12Update_of_eq bit _ hlamps

/-! ## The obligations -/

/-- Settles O24: the bits of the written register are `getBit_setIndexed`; the strobe of the example has one changed
bit. -/
theorem perBitWriteChangesOneBit : Obligations.PerBitWriteChangesOneBit := by
  refine ⟨fun i v => ⟨decodeRecord_ch10SetBit i v, decodeRecord_ch11SetBit i v⟩, fun v s => ⟨?_, ?_⟩,
    fun i v s _ => ⟨⟨_, rfl, getBit_setIndexed s.c10 i v⟩, ⟨_, rfl, getBit_setIndexed s.c11 i v⟩⟩, ?_, ?_⟩
  · exact congrArg (fun c => Host.Outcome.next { s with c10 := c }) (setIndexed_zero s.c10 v)
  · exact congrArg (fun c => Host.Outcome.next { s with c11 := c }) (setIndexed_zero s.c11 v)
  · intro s hs
    have hc : setIndexed s.c10 15 true = 0x4000 := by rw [hs]; rfl
    exact ⟨_, rfl, hc, by simp only [hc]; rfl⟩
  · exact fun p hmap hconn => ⟨_, _, rfl, rfl, strobe_compActy hmap hconn⟩

/-- Settles O25: the bits of the written register are `getBit_assignWhole`. -/
theorem wholeWriteAlignsIntegerBits : Obligations.WholeWriteAlignsIntegerBits := by
  have hword : decodeWord (assignWhole 0xDBBD) = .rw11 false 29 29 := by decide
  have hbits : ∀ k : RegBit, getBit (assignWhole 0x0002) k = decide (k.val + 1 = 2) := by decide
  refine ⟨fun w => ⟨decodeRecord_ch10Write w, decodeRecord_ch11Write w⟩, fun w s => ⟨?_, ?_, ?_, ?_⟩, ?_, ?_⟩
  · exact ⟨_, rfl, getBit_assignWhole w, extractLsb'_assignWhole (by decide) w, getBit_assignWhole w 10,
      extractLsb'_assignWhole (by decide) w, extractLsb'_assignWhole (by decide) w⟩
  · exact ⟨_, rfl, getBit_assignWhole w⟩
  · exact congrArg (fun c => Host.Outcome.next { s with c10 := c }) (assignWhole_ignores_bit15 w)
  · exact congrArg (fun c => Host.Outcome.next { s with c11 := c }) (assignWhole_ignores_bit15 w)
  · exact fun s => ⟨_, rfl, rfl, hword⟩
  · exact fun s => ⟨_, rfl, hbits⟩

/-- Settles O41: after each of the three updates the stored bits are the ones presented, and a presented bit that is
already stored is silent. -/
theorem repeatedIndicatorUpdatesAreSilent : Obligations.RepeatedIndicatorUpdatesAreSilent := by
  rintro i s t (rfl | ⟨i, v, rfl⟩ | ⟨sb, up, lo, rfl⟩) h <;> injection h with h <;> subst h
  · exact congrArg Host.Outcome.next (presentAll_again s)
  · exact congrArg Host.Outcome.next (trkSetIndexed_again i v s)
  · exact congrArg Host.Outcome.next (lamp12Update_again _ s)

end Sys2Proof.Machine
end

section
/-! The frame parser as a function of the records alone (44_frame_codec.md R83, R84): every instruction completes, and
only a byte moves the parser. So the records of the control lines can be left out of a run (20_memory.md R34). -/

namespace Sys2Proof.Machine

open Sys2Proof.Safety

/-! ## The parser -/

/-- The parser's position and accumulator (10_state.md R19). -/
@[ext]
structure FrameParser where
  pos : FramePos
  chan : BitVec 7
  data : BitVec 15

def parserOf (s : State) : FrameParser := ⟨s.fpos, s.fchan, s.fdata⟩

theorem parserOf_eq_iff {s t : State} :
    parserOf s = parserOf t ↔ s.fpos = t.fpos ∧ s.fchan = t.fchan ∧ s.fdata = t.fdata :=
  FrameParser.ext_iff

/-- The parser after a frame byte (R83, R84): the byte of the position fills its bits, any byte at position 3 ends the
frame, and any other is dropped. -/
def FrameParser.accept (p : FrameParser) (i : Instr) : FrameParser :=
  match p.pos, i with
  | .p0, .frameB0 _ chHi => ⟨.p1, chHi.setWidth 7 <<< 3, 0⟩
  | .p1, .frameB1 chLo dHi => ⟨.p2, p.chan ||| chLo.setWidth 7, dHi.setWidth 15 <<< 12⟩
  | .p2, .frameB2 dMid => ⟨.p3, p.chan, p.data ||| (dMid.setWidth 15 <<< 6)⟩
  | .p3, _ => ⟨.p0, 0, 0⟩
  | _, _ => p

/-- The parser after an instruction: BYTE_IN is the frame byte of its marker, and only bytes move the parser. -/
def FrameParser.after (p : FrameParser) (i : Instr) : FrameParser :=
  match i with
  | .byteIn b => p.accept (decodeByte b)
  | i => if isByte i then p.accept i else p

theorem FrameParser.after_of_not_byte (p : FrameParser) {i : Instr} (hi : isByte i = false) : p.after i = p := by
  unfold FrameParser.after
  split
  · cases hi
  · simp [hi]

/-- The parser after a record; a malformed one is refused. -/
def FrameParser.afterRecord (p : FrameParser) (r : Record) : FrameParser :=
  match decodeRecord r with
  | .ok i => p.after i
  | .error _ => p

/-! ## Every instruction completes -/

theorem dispatchRelay_completes (rw : BitVec 4) (sb : Bool) (up lo : BitVec 5) (s : State) :
    ∃ t, dispatchRelay rw sb up lo s = .next t := by
  rcases relayWord_cases rw with e | e | e | e | e | e | e | e | e | e | e | e | e | e | e | e <;> subst e <;>
    exact ⟨_, rfl⟩

theorem execKeyIn_completes (k : BitVec 16) (s : State) : ∃ t, execKeyIn k s = .next t := by
  unfold execKeyIn
  split <;> exact ⟨_, rfl⟩

theorem execTransportStatus_completes (role : BitVec 4) (up : Bool) (s : State) :
    ∃ t, execTransportStatus role up s = .next t := by
  unfold execTransportStatus
  split <;> exact ⟨_, rfl⟩

theorem frameDispatch_completes (ch : BitVec 7) (d : BitVec 15) (s : State) : ∃ t, frameDispatch ch d s = .next t := by
  unfold frameDispatch
  split_ifs
  · exact dispatchRelay_completes _ _ _ _ _
  all_goals exact ⟨_, rfl⟩

/-- The end of a frame clears the parser, whatever the frame does. -/
theorem frameDispatch_clearParser (ch : BitVec 7) (d : BitVec 15) (s : State) :
    ∃ t, frameDispatch ch d (clearParser s) = .next t ∧ parserOf t = ⟨.p0, 0, 0⟩ := by
  obtain ⟨t, ht⟩ := frameDispatch_completes ch d (clearParser s)
  exact ⟨t, ht, parserOf_eq_iff.mpr (frameDispatch_parser ht)⟩

theorem frameEndMismatched_parser (s : State) :
    ∃ t, frameEndMismatched s = .next t ∧ parserOf t = ⟨.p0, 0, 0⟩ := by
  unfold frameEndMismatched
  split
  · exact frameDispatch_clearParser _ _ s
  · exact ⟨_, rfl, rfl⟩

section FrameBytes
variable (s : State)

theorem execFrameB0_parser (ign : BitVec 2) (chHi : BitVec 4) :
    ∃ t, execFrameB0 ign chHi s = .next t ∧ parserOf t = (parserOf s).accept (.frameB0 ign chHi) := by
  cases hp : s.fpos <;> simp only [execFrameB0, FrameParser.accept, parserOf, hp]
  case p3 => exact frameEndMismatched_parser s
  all_goals exact ⟨_, rfl, by simp [hp]⟩

theorem execFrameB1_parser (chLo dHi : BitVec 3) :
    ∃ t, execFrameB1 chLo dHi s = .next t ∧ parserOf t = (parserOf s).accept (.frameB1 chLo dHi) := by
  cases hp : s.fpos <;> simp only [execFrameB1, FrameParser.accept, parserOf, hp]
  case p3 => exact frameEndMismatched_parser s
  all_goals exact ⟨_, rfl, by simp [hp]⟩

theorem execFrameB2_parser (dMid : BitVec 6) :
    ∃ t, execFrameB2 dMid s = .next t ∧ parserOf t = (parserOf s).accept (.frameB2 dMid) := by
  cases hp : s.fpos <;> simp only [execFrameB2, FrameParser.accept, parserOf, hp]
  case p3 => exact frameEndMismatched_parser s
  all_goals exact ⟨_, rfl, by simp [hp]⟩

theorem execFrameB3_parser (dLo : BitVec 6) :
    ∃ t, execFrameB3 dLo s = .next t ∧ parserOf t = (parserOf s).accept (.frameB3 dLo) := by
  cases hp : s.fpos <;> simp only [execFrameB3, FrameParser.accept, parserOf, hp]
  case p3 => exact frameDispatch_clearParser _ _ s
  all_goals exact ⟨_, rfl, by simp [hp]⟩

theorem execByteIn_parser (b : Byte) :
    ∃ t, execByteIn b s = .next t ∧ parserOf t = (parserOf s).accept (decodeByte b) := by
  rcases marker_cases (byteMarker b) with h | h | h | h <;> rw [execByteIn, decodeByte, h]
  · exact execFrameB0_parser s (b.extractLsb' 4 2) (b.extractLsb' 0 4)
  · exact execFrameB1_parser s (b.extractLsb' 3 3) (b.extractLsb' 0 3)
  · exact execFrameB2_parser s (b.extractLsb' 0 6)
  · exact execFrameB3_parser s (b.extractLsb' 0 6)

end FrameBytes

theorem exec_completes_of_not_byte {i : Instr} (hi : isByte i = false) (s : State) : ∃ t, exec i s = .next t := by
  by_cases hw : isRelayWord i = true
  · obtain ⟨rw, sb, up, lo, rfl⟩ := exists_relayInstr hw
    exact dispatchRelay_eq_exec rw sb up lo s ▸ dispatchRelay_completes rw sb up lo s
  cases i with
  | byteIn | frameB0 | frameB1 | frameB2 | frameB3 => cases hi
  | dispStrobe => exact dispatchRelay_completes _ _ _ _ s
  | keyIn k => exact execKeyIn_completes k s
  | transportStatus role up => exact execTransportStatus_completes role up s
  | ch10SetBit | ch10Write | ch11SetBit | ch11Write | indcStrobe | trackerSetBit | reset | unassigned0 | unassignedF
  | standby | keyboardStrobe | proceed => exact ⟨_, rfl⟩
  | _ => exact absurd rfl hw

/-- Every instruction completes, and what it does to the parser depends on the parser alone. -/
theorem exec_parser (i : Instr) (s : State) :
    ∃ t, exec i s = .next t ∧ parserOf t = (parserOf s).after i := by
  cases hi : isByte i with
  | false =>
    obtain ⟨t, ht⟩ := exec_completes_of_not_byte hi s
    rw [FrameParser.after_of_not_byte _ hi]
    exact ⟨t, ht, parserOf_eq_iff.mpr ((exec_touches ht).parser hi)⟩
  | true =>
    cases i with
    | byteIn b => exact execByteIn_parser s b
    | frameB0 ign chHi => exact execFrameB0_parser s ign chHi
    | frameB1 chLo dHi => exact execFrameB1_parser s chLo dHi
    | frameB2 dMid => exact execFrameB2_parser s dMid
    | frameB3 dLo => exact execFrameB3_parser s dLo
    | _ => cases hi

/-! ## What a reader of the decoder can answer -/

section Readers
variable {i j : Instr} {idx : BitVec 4} {arg : BitVec 16}

theorem eq_of_ite_ok {c : Prop} [Decidable c] {e : DecodeError} (h : (if c then .ok i else .error e) = Except.ok j) :
    j = i := by
  split_ifs at h
  injection h with h; exact h.symm

theorem eq_of_decodeBare (h : decodeBare i idx arg = .ok j) : j = i := eq_of_ite_ok h

theorem eq_of_decodeSetBit {mk : BitVec 4 → Bool → Instr} (h : decodeSetBit mk idx arg = .ok j) :
    ∃ v, j = mk idx v := ⟨_, eq_of_ite_ok h⟩

theorem eq_of_decodeWrite {mk : BitVec 16 → Instr} (h : decodeWrite mk idx arg = .ok j) : j = mk arg := eq_of_ite_ok h

theorem eq_of_decodeByteIn (h : decodeByteIn idx arg = .ok j) : ∃ b, j = .byteIn b := ⟨_, eq_of_ite_ok h⟩

theorem eq_of_decodeKeyIn (h : decodeKeyIn idx arg = .ok j) : j = .keyIn arg := by
  unfold decodeKeyIn at h
  split_ifs at h
  injection h with h; exact h.symm

theorem eq_of_decodeTransport (h : decodeTransport idx arg = .ok j) : ∃ up, j = .transportStatus idx up := by
  unfold decodeTransport at h
  split_ifs at h
  injection h with h; exact ⟨_, h.symm⟩

end Readers

/-! ## Socket records -/

/-- Of the operations a tag names, BYTE_IN alone is a byte, and its tag is 8 (30_encoding.md R49). -/
theorem isByte_of_decodeTag {tag idx : BitVec 4} {arg : BitVec 16} {rest : BitVec 28} {i : Instr}
    (h : decodeTag tag idx arg rest = .ok i) : isByte i = decide (tag = 0x8#4) := by
  rcases relayWord_cases tag with e | e | e | e | e | e | e | e | e | e | e | e | e | e | e | e <;> subst e
  case inl => injection h with h; exact h ▸ rfl
  · obtain ⟨v, rfl⟩ := eq_of_decodeSetBit h; rfl
  · obtain rfl := eq_of_decodeWrite h; rfl
  · obtain rfl := eq_of_decodeBare h; rfl
  · obtain ⟨v, rfl⟩ := eq_of_decodeSetBit h; rfl
  · obtain rfl := eq_of_decodeWrite h; rfl
  · obtain rfl := eq_of_decodeBare h; rfl
  · obtain ⟨v, rfl⟩ := eq_of_decodeSetBit h; rfl
  · obtain ⟨b, rfl⟩ := eq_of_decodeByteIn h; rfl
  · obtain rfl := eq_of_decodeKeyIn h; rfl
  · obtain rfl := eq_of_decodeBare h; rfl
  · obtain ⟨up, rfl⟩ := eq_of_decodeTransport h; rfl
  · obtain rfl := eq_of_decodeBare h; rfl
  · obtain rfl := eq_of_decodeBare h; rfl
  · obtain rfl := eq_of_decodeBare h; rfl
  · injection h with h; exact h ▸ rfl

/-- Among the records that decode, those of the socket are the ones that decode to a byte. -/
theorem isByte_of_decodeRecord {r : Record} {i : Instr} (h : decodeRecord r = .ok i) : isByte i = isSocket r := by
  unfold decodeRecord at h
  split at h
  · cases h
  · exact isByte_of_decodeTag h

/-- A record of the control lines leaves the parser alone. -/
theorem FrameParser.afterRecord_of_not_socket (p : FrameParser) {r : Record} (hr : isSocket r = false) :
    p.afterRecord r = p := by
  unfold FrameParser.afterRecord
  split
  case h_1 i hdec => exact p.after_of_not_byte ((isByte_of_decodeRecord hdec).trans hr)
  case h_2 => rfl

/-! ## Runs -/

/-- The step at a pending record. -/
theorem step_parser {s : State} {r : Record} {rest : List Record} (hin : s.input = r :: rest) :
    ∃ t, step s = .next t ∧ t.input = rest ∧ parserOf t = (parserOf s).afterRecord r := by
  unfold FrameParser.afterRecord
  cases hdec : decodeRecord r with
  | ok i =>
    obtain ⟨t, ht, hparser⟩ := exec_parser i { s with input := rest }
    exact ⟨t, (step_eq_exec hin hdec).trans ht, (exec_touches ht).input, hparser⟩
  | error e =>
    have hstep : step s = .next (refuseMalformed e { s with input := rest }) := by
      simp only [step, takeInput_of_input_cons hin, hdec]
    exact ⟨_, hstep, rfl, rfl⟩

/-- A run over the whole input folds its records into the parser. -/
theorem run_parser {l : List Record} {s : State} (hin : s.input = l) :
    ∃ t, run l.length s = .next t ∧ parserOf t = l.foldl FrameParser.afterRecord (parserOf s) := by
  induction l generalizing s with
  | nil => exact ⟨s, rfl, rfl⟩
  | cons r rest ih =>
    obtain ⟨u, hstep, hrest, hu⟩ := step_parser hin
    obtain ⟨t, hrun, ht⟩ := ih hrest
    exact ⟨t, (run_succ hstep).trans hrun, by rw [ht, hu, List.foldl_cons]⟩

/-- Settles O18: a run folds the records into the parser, and a fold may skip the records that leave it alone. -/
theorem parserSeesOnlySocketRecords : Obligations.ParserSeesOnlySocketRecords := by
  intro s
  obtain ⟨t, ht, hparser⟩ := run_parser (s := s) rfl
  obtain ⟨u, hu, hsocket⟩ := run_parser (s := { s with input := s.input.filter isSocket }) rfl
  refine ⟨t, u, ht, hu, parserOf_eq_iff.mp ?_⟩
  have hskip : (fun (p : FrameParser) r => if isSocket r then p.afterRecord r else p) = FrameParser.afterRecord := by
    funext p r
    split
    case isTrue => rfl
    case isFalse hr => exact (p.afterRecord_of_not_socket (by simpa using hr)).symm
  rw [hparser, hsocket, List.foldl_filter, hskip]
  rfl

end Sys2Proof.Machine
end

section
/-! Decoding and encoding undo each other (30_encoding.md R38, R44, R48, R49): by the relay word of a Channel-10 word, by
the marker of a frame byte, and by the tag of a record, whose reader answers only where no bit of it is lost. -/

namespace Sys2Proof.Machine

open Sys2Proof.Safety

/-! ## Channel-10 words -/

theorem encode_relayInstr (rw : BitVec 4) (sb : Bool) (up lo : BitVec 5) :
    encode (relayInstr rw sb up lo) = .word (packWord rw sb up lo) := by
  rcases relayWord_cases rw with e | e | e | e | e | e | e | e | e | e | e | e | e | e | e | e <;> subst e <;> rfl

theorem relayInstr_wellFormed (rw : BitVec 4) (sb : Bool) (up lo : BitVec 5) :
    (relayInstr rw sb up lo).wellFormed = true := by
  rcases relayWord_cases rw with e | e | e | e | e | e | e | e | e | e | e | e | e | e | e | e <;> subst e <;> rfl

theorem decode_encode_relayInstr (rw : BitVec 4) (sb : Bool) (up lo : BitVec 5) :
    decode (encode (relayInstr rw sb up lo)) = .ok (relayInstr rw sb up lo) := by
  rw [encode_relayInstr]
  exact congrArg Except.ok (decodeWord_packWord rw sb up lo)

theorem encode_decodeWord (w : ChanWord) : encode (decodeWord w) = .word w :=
  (encode_relayInstr _ _ _ _).trans (congrArg Encoded.word (packWord_fields w))

/-! ## Frame bytes -/

/-- A word is its high bits with its low `n` bits under them. -/
theorem high_append_low {m n : Nat} {x : BitVec (m + n)} {hi : BitVec m} (h : x.extractLsb' n m = hi) :
    hi ++ x.extractLsb' 0 n = x := by
  subst h
  exact (BitVec.extractLsb'_append_extractLsb'_eq_extractLsb' (by omega)).trans BitVec.extractLsb'_eq_self

section Markers
variable {b : Byte} {marker : BitVec 2}

/-- Markers 10 and 11 (R44): six bits under the marker. -/
theorem marker_append_six (h : byteMarker b = marker) : (marker ++ b.extractLsb' 0 6 : BitVec 8) = b :=
  high_append_low (m := 2) (n := 6) h

/-- Marker 00 (R44): two ignored bits and four channel bits under the marker. -/
theorem marker_append_two_four (h : byteMarker b = marker) :
    (marker ++ b.extractLsb' 4 2 ++ b.extractLsb' 0 4 : BitVec 8) = b := by
  subst h
  exact high_append_low (m := 4) (n := 4)
    (BitVec.extractLsb'_append_extractLsb'_eq_extractLsb' (start₁ := 4) (len₁ := 2) (by omega)).symm

/-- Marker 01 (R44): three channel bits and three data bits under the marker. -/
theorem marker_append_three_three (h : byteMarker b = marker) :
    (marker ++ b.extractLsb' 3 3 ++ b.extractLsb' 0 3 : BitVec 8) = b := by
  subst h
  exact high_append_low (m := 5) (n := 3)
    (BitVec.extractLsb'_append_extractLsb'_eq_extractLsb' (start₁ := 3) (len₁ := 3) (by omega)).symm

end Markers

theorem decodeByte_wellFormed (b : Byte) : (decodeByte b).wellFormed = true := by
  rcases marker_cases (byteMarker b) with h | h | h | h <;> rw [decodeByte, h] <;> rfl

theorem encode_decodeByte (b : Byte) : encode (decodeByte b) = .byte b := by
  rcases marker_cases (byteMarker b) with h | h | h | h <;> rw [decodeByte, h]
  · exact congrArg Encoded.byte (marker_append_two_four h)
  · exact congrArg Encoded.byte (marker_append_three_three h)
  · exact congrArg Encoded.byte (marker_append_six h)
  · exact congrArg Encoded.byte (marker_append_six h)

/-! ## Records -/

theorem flagArg_of_high_eq_zero {arg : BitVec 16} (h : arg.extractLsb' 1 15 = 0) : flagArg (arg.getLsbD 0) = arg := by
  have hbit : BitVec.ofBool (arg.getLsbD 0) = arg.extractLsb' 0 1 := by
    rw [← BitVec.setWidth_one]
    rfl
  rw [flagArg, hbit]
  exact high_append_low (m := 15) (n := 1) h

theorem byteArg_of_high_eq_zero {arg : BitVec 16} (h : arg.extractLsb' 8 8 = 0) :
    (0#8 ++ arg.extractLsb' 0 8 : BitVec 16) = arg :=
  high_append_low (m := 8) (n := 8) h

section Readers
variable {i j : Instr} {idx : BitVec 4} {arg : BitVec 16}

theorem decodeBare_eq_ok (h : decodeBare i idx arg = .ok j) : j = i ∧ idx = 0 ∧ arg = 0 := by
  unfold decodeBare at h
  split_ifs at h with hzero
  injection h with h
  exact ⟨h.symm, hzero⟩

theorem decodeSetBit_eq_ok {mk : BitVec 4 → Bool → Instr} (h : decodeSetBit mk idx arg = .ok j) :
    ∃ v, j = mk idx v ∧ arg = flagArg v := by
  unfold decodeSetBit at h
  split_ifs at h with hhigh
  injection h with h
  exact ⟨_, h.symm, (flagArg_of_high_eq_zero hhigh).symm⟩

theorem decodeWrite_eq_ok {mk : BitVec 16 → Instr} (h : decodeWrite mk idx arg = .ok j) : j = mk arg ∧ idx = 0 := by
  unfold decodeWrite at h
  split_ifs at h with hidx
  injection h with h
  exact ⟨h.symm, hidx⟩

theorem decodeByteIn_eq_ok (h : decodeByteIn idx arg = .ok j) :
    ∃ b : Byte, j = .byteIn b ∧ idx = 0 ∧ arg = 0#8 ++ b := by
  unfold decodeByteIn at h
  split_ifs at h with hok
  obtain ⟨hidx, hhigh⟩ := hok
  injection h with h
  exact ⟨_, h.symm, hidx, (byteArg_of_high_eq_zero hhigh).symm⟩

theorem decodeKeyIn_eq_ok (h : decodeKeyIn idx arg = .ok j) : j = .keyIn arg ∧ idx = 0 ∧ keyCodeOk arg = true := by
  unfold decodeKeyIn at h
  split_ifs at h with hidx hkey
  injection h with h
  exact ⟨h.symm, not_not.mp hidx, hkey⟩

theorem decodeTransport_eq_ok (h : decodeTransport idx arg = .ok j) :
    ∃ up, j = .transportStatus idx up ∧ arg = flagArg up ∧ roleFieldOk idx = true := by
  unfold decodeTransport at h
  split_ifs at h with hhigh hrole
  injection h with h
  exact ⟨_, h.symm, (flagArg_of_high_eq_zero (not_not.mp hhigh)).symm, hrole⟩

end Readers

/-- `i` is well formed and stands for `e`: what a decoder's answer has to be. -/
def Encodes (i : Instr) (e : Encoded) : Prop := i.wellFormed = true ∧ encode i = e

/-- Under an assigned tag the reader's answer encodes to the fields it was read from. -/
theorem decodeTag_encodes {tag idx : BitVec 4} {arg : BitVec 16} {rest : BitVec 28} {i : Instr}
    (htag : tagUnassigned tag = false) (h : decodeTag tag idx arg rest = .ok i) :
    Encodes i (.record (packOp tag idx arg)) := by
  rcases relayWord_cases tag with e | e | e | e | e | e | e | e | e | e | e | e | e | e | e | e <;> subst e
  case inl => cases htag
  · obtain ⟨v, rfl, rfl⟩ := decodeSetBit_eq_ok h; exact ⟨rfl, rfl⟩
  · obtain ⟨rfl, rfl⟩ := decodeWrite_eq_ok h; exact ⟨rfl, rfl⟩
  · obtain ⟨rfl, rfl, rfl⟩ := decodeBare_eq_ok h; exact ⟨rfl, rfl⟩
  · obtain ⟨v, rfl, rfl⟩ := decodeSetBit_eq_ok h; exact ⟨rfl, rfl⟩
  · obtain ⟨rfl, rfl⟩ := decodeWrite_eq_ok h; exact ⟨rfl, rfl⟩
  · obtain ⟨rfl, rfl, rfl⟩ := decodeBare_eq_ok h; exact ⟨rfl, rfl⟩
  · obtain ⟨v, rfl, rfl⟩ := decodeSetBit_eq_ok h; exact ⟨rfl, rfl⟩
  · obtain ⟨b, rfl, rfl, rfl⟩ := decodeByteIn_eq_ok h; exact ⟨rfl, rfl⟩
  · obtain ⟨rfl, rfl, hkey⟩ := decodeKeyIn_eq_ok h; exact ⟨hkey, rfl⟩
  · obtain ⟨rfl, rfl, rfl⟩ := decodeBare_eq_ok h; exact ⟨rfl, rfl⟩
  · obtain ⟨up, rfl, rfl, hrole⟩ := decodeTransport_eq_ok h; exact ⟨hrole, rfl⟩
  · obtain ⟨rfl, rfl, rfl⟩ := decodeBare_eq_ok h; exact ⟨rfl, rfl⟩
  · obtain ⟨rfl, rfl, rfl⟩ := decodeBare_eq_ok h; exact ⟨rfl, rfl⟩
  · obtain ⟨rfl, rfl, rfl⟩ := decodeBare_eq_ok h; exact ⟨rfl, rfl⟩
  · cases htag

/-- Under an unassigned tag (R100) the other 28 bits are the operand, whatever they hold. -/
theorem decodeTag_unassigned_encodes {tag idx : BitVec 4} {arg : BitVec 16} {rest : BitVec 28} {i : Instr}
    (htag : tagUnassigned tag = true) (h : decodeTag tag idx arg rest = .ok i) :
    Encodes i (.record (tag ++ rest : BitVec 32)) := by
  simp only [tagUnassigned, decide_eq_true_eq] at htag
  rcases htag with rfl | rfl <;> (injection h with h; subst h; exact ⟨rfl, rfl⟩)

theorem decodeRecord_encodes {r : Record} {i : Instr} (h : decodeRecord r = .ok i) : Encodes i (.record r) := by
  unfold decodeRecord at h
  split_ifs at h with hreserved
  cases htag : tagUnassigned (recTag r) with
  | true => exact tagged_fields r ▸ decodeTag_unassigned_encodes htag h
  | false =>
    have hrsv : recRsv r = 0 := by simpa [htag] using hreserved
    have hpack : packOp (recTag r) (recIdx r) (recArg r) = r := by
      rw [packOp, ← hrsv]
      exact packRecord_fields r
    have henc := decodeTag_encodes htag h
    rwa [hpack] at henc

/-! ## The obligations -/

/-- Settles O2: relay words by packing and unpacking their four fields, every other row by its law of the family
`DecodeEncode`. -/
theorem decodeOfEncodeIsIdentity : Obligations.DecodeOfEncodeIsIdentity := by
  intro i
  by_cases hi : isRelayWord i = true
  · obtain ⟨rw, sb, up, lo, rfl⟩ := exists_relayInstr hi
    exact fun _ => decode_encode_relayInstr rw sb up lo
  cases i with
  | unassigned0 rest => exact Laws.DecodeEncode.unassigned0 rest
  | ch10SetBit k v => exact Laws.DecodeEncode.ch10SetBit k v
  | ch10Write w => exact Laws.DecodeEncode.ch10Write w
  | dispStrobe => exact Laws.DecodeEncode.dispStrobe
  | ch11SetBit k v => exact Laws.DecodeEncode.ch11SetBit k v
  | ch11Write w => exact Laws.DecodeEncode.ch11Write w
  | indcStrobe => exact Laws.DecodeEncode.indcStrobe
  | trackerSetBit k v => exact Laws.DecodeEncode.trackerSetBit k v
  | byteIn b => exact Laws.DecodeEncode.byteIn b
  | keyIn k => exact Laws.DecodeEncode.keyIn k
  | reset => exact Laws.DecodeEncode.reset
  | transportStatus role up => exact Laws.DecodeEncode.transportStatus role up
  | standby => exact Laws.DecodeEncode.standby
  | keyboardStrobe => exact Laws.DecodeEncode.keyboardStrobe
  | proceed => exact Laws.DecodeEncode.proceed
  | unassignedF rest => exact Laws.DecodeEncode.unassignedF rest
  | frameB0 ign chHi => exact Laws.DecodeEncode.frameB0 ign chHi
  | frameB1 chLo dHi => exact Laws.DecodeEncode.frameB1 chLo dHi
  | frameB2 dMid => exact Laws.DecodeEncode.frameB2 dMid
  | frameB3 dLo => exact Laws.DecodeEncode.frameB3 dLo
  | _ => exact absurd rfl hi

/-- Settles O3: a record by its tag's reader, a word and a byte by putting their fields together again. -/
theorem encodeOfDecodeIsIdentity : Obligations.EncodeOfDecodeIsIdentity := by
  intro e i h
  cases e with
  | record r => exact decodeRecord_encodes h
  | word w =>
    injection h with h
    exact h ▸ ⟨relayInstr_wellFormed _ _ _ _, encode_decodeWord w⟩
  | byte b =>
    injection h with h
    exact h ▸ ⟨decodeByte_wellFormed b, encode_decodeByte b⟩

/-- Settles O1: each conjunct is the decoder run on one literal. -/
theorem decodesWordsWrittenFromTheSpec : Obligations.DecodesWordsWrittenFromTheSpec := by
  unfold Obligations.DecodesWordsWrittenFromTheSpec
  decide

end Sys2Proof.Machine
end

section
/-! What a role's output may hold (30_encoding.md R46, R47): every command the block generates is one of its role, so
the shared operations keep each output well formed. -/

namespace Sys2Proof.Machine

open Sys2Proof.Safety

/-! ## The commands generated -/

section Commands
variable (p : Params)

theorem encodeDigit_commandOf (f : DigitField) (d : Digit) : CommandOf p .display (encodeDigit p f d) :=
  .inl ⟨f, d, encodeDigit_eq p f d⟩

theorem encodeSign_commandOf (r : Row) (n : Sign) : CommandOf p .display (encodeSign p r n) :=
  .inr (.inl ⟨r, n, encodeSign_eq p r n⟩)

theorem encodeActy_commandOf (v : Bool) : CommandOf p .display (encodeActy p v) :=
  .inr (.inr (.inl ⟨v, encodeActy_eq p v⟩))

theorem encodeLamp_commandOf (n : Lamp) (v : Bool) : CommandOf p .indicator (encodeLamp p n v) :=
  .inl ⟨n, v, encodeLamp_eq p n v⟩

theorem encodeReset_commandOf (role : Role) : CommandOf p role (encodeReset p role) := by
  cases role
  · exact .inr (.inr (.inr (encodeReset_eq p .display)))
  · exact .inr (encodeReset_eq p .indicator)

end Commands

/-! ## The shared operations -/

section Operations
variable {s : State}

/-- A generated command is appended to its own role's output, or dropped (R94). -/
theorem emit_outputsWellFormed (h : OutputsWellFormed s) {role : Role} {cmd : Bytes}
    (hcmd : CommandOf s.params role cmd) : OutputsWellFormed (emit role cmd s) := by
  unfold emit
  split
  case isFalse => exact h
  intro q c hc
  rw [roleGet_roleSet] at hc
  split at hc
  case isFalse => exact h q c hc
  case isTrue hq =>
    subst hq
    rcases List.mem_append.mp hc with hold | hnew
    · exact h q c hold
    · exact List.mem_singleton.mp hnew ▸ hcmd

theorem digitUpdate_outputsWellFormed (h : OutputsWellFormed s) (f : DigitField) (p : BitVec 5) :
    OutputsWellFormed (digitUpdate f p s) := by
  unfold digitUpdate
  split
  case h_1 => exact h
  case h_2 d _ =>
    exact emit_outputsWellFormed (s := { s with dcache := cacheSet s.dcache f d }) h (encodeDigit_commandOf _ f d)

theorem offerSign_outputsWellFormed (h : OutputsWellFormed s) (r : Row) (w : SignFlag) (sb : Bool) :
    OutputsWellFormed (offerSign r w sb s) := by
  cases w <;> exact h

theorem commandSign_outputsWellFormed (h : OutputsWellFormed s) (r : Row) (n : Sign) :
    OutputsWellFormed (commandSign r n s) := by
  unfold commandSign
  split
  case isTrue => exact h
  case isFalse =>
    exact emit_outputsWellFormed (s := { s with sout := rowSet s.sout r n }) h (encodeSign_commandOf _ r n)

theorem signUpdate_outputsWellFormed (h : OutputsWellFormed s) (r : Row) (w : SignFlag) (sb : Bool) :
    OutputsWellFormed (signUpdate r w sb s) :=
  commandSign_outputsWellFormed (offerSign_outputsWellFormed h r w sb) r _

theorem lampStep_outputsWellFormed (h : OutputsWellFormed s) (b : LampBit) (v : Bool) :
    OutputsWellFormed (lampStep b v s) := by
  unfold lampStep
  split
  case isTrue => exact h
  case isFalse =>
    exact emit_outputsWellFormed (s := { s with l12 := lampSet s.l12 b v }) h (encodeLamp_commandOf _ _ v)

theorem trackerCommand_outputsWellFormed (h : OutputsWellFormed s) (e : Option Ch11Entry) (v : Bool) :
    OutputsWellFormed (trackerCommand e v s) := by
  rcases e with _ | n | _
  · exact h
  · exact emit_outputsWellFormed h (encodeLamp_commandOf _ n v)
  · exact emit_outputsWellFormed h (encodeActy_commandOf _ v)

theorem trkSetBit_outputsWellFormed (h : OutputsWellFormed s) (k : RegBit) (v : Bool) :
    OutputsWellFormed (trkSetBit k v s) := by
  unfold trkSetBit
  split
  case isTrue => exact h
  case isFalse => exact trackerCommand_outputsWellFormed (s := { s with s11 := setBit s.s11 k v }) h _ v

/-- RESET generates the reset command of each role (R112), and clears no output. -/
theorem execReset_outputsWellFormed (h : OutputsWellFormed s) {t : State} (ht : exec .reset s = .next t) :
    OutputsWellFormed t := by
  rw [exec_reset_eq] at ht
  injection ht with ht
  subst ht
  have hdisplay : OutputsWellFormed (emit .display (encodeReset s.params .display) (clearDisplay s)) :=
    emit_outputsWellFormed (s := clearDisplay s) h (encodeReset_commandOf _ .display)
  refine emit_outputsWellFormed (s := clearTracker _) hdisplay ?_
  rw [clearTracker_params, emit_params, clearDisplay_params]
  exact encodeReset_commandOf _ .indicator

end Operations

/-! ## Every step -/

theorem Does.outputsWellFormed {s t : State} (h : Does s t) (hs : OutputsWellFormed s) : OutputsWellFormed t := by
  induction h with
  | refl | plain | report | refuse | send => exact hs
  | trans _ _ ihs iht => exact iht (ihs hs)
  | digit f p => exact digitUpdate_outputsWellFormed hs f p
  | sign r w sb => exact signUpdate_outputsWellFormed hs r w sb
  | lamp b v => exact lampStep_outputsWellFormed hs b v
  | bit k v => exact trkSetBit_outputsWellFormed hs k v
  | reset h => exact execReset_outputsWellFormed hs h

/-- Settles O17: an instruction is a chain of shared operations, each of which keeps the outputs well formed; a
connection flag, a refusal or an idle step writes no output. -/
theorem outputsHoldOnlyCommandsOfTheirRole : Obligations.OutputsHoldOnlyCommandsOfTheirRole := by
  intro s t hs h
  rcases step_cases h with ⟨-, rfl⟩ | ⟨r, rest, -, ⟨i, -, hx⟩ | ⟨-, rfl⟩⟩
  · exact hs
  · rcases exec_does hx with hd | ⟨r, up, rfl⟩
    · exact hd.outputsWellFormed hs
    · exact hs
  · exact hs

end Sys2Proof.Machine
end

section
/-! The four bytes of a frame from position 0 (30_encoding.md R44, 44_frame_codec.md R83, R84): each fills its bits of
the accumulator, and together they are the frame's channel and data. -/

namespace Sys2Proof.Machine

open Sys2Proof.Safety

/-! ## A byte at its position -/

section Bytes
variable {s : State}

theorem exec_frameB0_at_p0 (hp : s.fpos = .p0) (ign : BitVec 2) (chHi : BitVec 4) :
    exec (.frameB0 ign chHi) s = .next { s with fchan := chHi.setWidth 7 <<< 3, fdata := 0, fpos := .p1 } := by
  simp only [exec, execFrameB0, hp]

theorem exec_frameB1_at_p1 (hp : s.fpos = .p1) (chLo dHi : BitVec 3) :
    exec (.frameB1 chLo dHi) s =
      .next { s with fchan := s.fchan ||| chLo.setWidth 7, fdata := dHi.setWidth 15 <<< 12, fpos := .p2 } := by
  simp only [exec, execFrameB1, hp]

theorem exec_frameB2_at_p2 (hp : s.fpos = .p2) (dMid : BitVec 6) :
    exec (.frameB2 dMid) s = .next { s with fdata := s.fdata ||| (dMid.setWidth 15 <<< 6), fpos := .p3 } := by
  simp only [exec, execFrameB2, hp]

/-- The last byte dispatches the pair of the accumulator, from a clear parser. -/
theorem exec_frameB3_at_p3 (hp : s.fpos = .p3) (dLo : BitVec 6) :
    exec (.frameB3 dLo) s = frameDispatch s.fchan (s.fdata ||| dLo.setWidth 15) (clearParser s) := by
  simp only [exec, execFrameB3, hp, frameEndMatched]

end Bytes

/-! ## The accumulator -/

/-- R44: channel bits 6:3 come in byte 0, bits 2:0 in byte 1. -/
theorem channel_of_fields (ch : BitVec 7) :
    (ch.extractLsb' 3 4).setWidth 7 <<< 3 ||| (ch.extractLsb' 0 3).setWidth 7 = ch := by
  rw [← BitVec.setWidth_append_eq_shiftLeft_setWidth_or, high_append_low (m := 4) (n := 3) rfl, BitVec.setWidth_eq]

/-- R44: data bits 14:12 come in byte 1, bits 11:6 in byte 2, bits 5:0 in byte 3. -/
theorem data_of_fields (d : BitVec 15) :
    (d.extractLsb' 12 3).setWidth 15 <<< 12 ||| (d.extractLsb' 6 6).setWidth 15 <<< 6 |||
      (d.extractLsb' 0 6).setWidth 15 = d := by
  have hupper : d.extractLsb' 12 3 ++ d.extractLsb' 6 6 = d.extractLsb' 6 9 :=
    BitVec.extractLsb'_append_extractLsb'_eq_extractLsb' rfl
  have hfields : d.extractLsb' 12 3 ++ d.extractLsb' 6 6 ++ d.extractLsb' 0 6 = d :=
    high_append_low (m := 9) (n := 6) hupper.symm
  have hor := BitVec.setWidth_append_append_eq_shiftLeft_setWidth_or (w''' := 15)
    (b := d.extractLsb' 12 3) (b' := d.extractLsb' 6 6) (b'' := d.extractLsb' 0 6)
  rw [hfields, BitVec.setWidth_eq] at hor
  exact hor.symm

/-- Settles O21: the accumulator fills up to the frame's pair, and the last byte dispatches it. -/
theorem frameDeliversItsPair : Obligations.FrameDeliversItsPair := by
  intro ch d ign s hp
  refine ⟨_, _, _, exec_frameB0_at_p0 hp ign _, exec_frameB1_at_p1 rfl _ _, exec_frameB2_at_p2 rfl _, rfl, rfl, rfl, ?_⟩
  rw [exec_frameB3_at_p3 rfl]
  dsimp only
  rw [channel_of_fields, data_of_fields]
  exact frameDispatch_dispatched ch d (parserClear s)

end Sys2Proof.Machine
end

section
/-! SEG_DECODE as the seven-segment table (41_segment_codec.md R57, 30_encoding.md R41): each digit has one pattern, and
SEG_DECODE inverts the map from digits to patterns. -/

namespace Sys2Proof.Machine

/-- The pattern the table of R41 pairs with a digit. -/
def digitPattern : Digit → BitVec 5
  | .blank => 0
  | .num n => #v[21, 3, 25, 27, 15, 30, 28, 19, 29, 31][n]

@[simp] theorem segDecode_digitPattern (d : Digit) : segDecode (digitPattern d) = some d := by
  cases d with
  | blank => rfl
  | num n => revert n; decide

theorem digitPattern_of_segDecode : ∀ p : BitVec 5, ∀ d ∈ segDecode p, p = digitPattern d := by
  decide

theorem segDecode_eq_some_iff (p : BitVec 5) (d : Digit) : segDecode p = some d ↔ p = digitPattern d := by
  constructor
  · exact digitPattern_of_segDecode p d
  · rintro rfl
    exact segDecode_digitPattern d

/-- The rows of R41, a digit as its integer (R9). -/
def segmentTable : List (Nat × Int) :=
  [(0, -1), (21, 0), (3, 1), (25, 2), (27, 3), (15, 4), (30, 5), (28, 6), (19, 7), (29, 8), (31, 9)]

theorem mem_segmentTable_iff (p : BitVec 5) (d : Digit) :
    (p.toNat, digitVal d) ∈ segmentTable ↔ p = digitPattern d := by
  cases d with
  | blank => revert p; decide
  | num n => revert p n; decide

/-- The 21 patterns R41 leaves without a digit. -/
theorem segDecode_eq_none_iff : ∀ p : BitVec 5, segDecode p = none ↔
    p.toNat ∈ [1, 2, 4, 5, 6, 7, 8, 9, 10, 11, 12, 13, 14, 16, 17, 18, 20, 22, 23, 24, 26] := by
  decide

/-- Settles O26: SEG_DECODE inverts `digitPattern`, whose values are the rows of the table; so a digit has one pattern. -/
theorem segmentMapperIsTheTable : Obligations.SegmentMapperIsTheTable := by
  refine ⟨fun p d => ?_, segDecode_eq_none_iff, fun p q d hp hq => ?_⟩
  · exact (segDecode_eq_some_iff p d).trans (mem_segmentTable_iff p d).symm
  · rw [segDecode_eq_some_iff] at hp hq
    exact hp.trans hq.symm

end Sys2Proof.Machine
end

section
/-! What a placed instruction, DISP_STROBE and the DISPLAY_WORD of a test script run (30_encoding.md R52,
42_display_decoder.md R59, R60; log entries 6, 7): each step is the `exec` of the instruction that its record names. -/

namespace Sys2Proof.Machine

open Sys2Proof.Safety

/-! ## Delivered records -/

theorem step_deliver {r : Record} {i : Instr} (hdec : decodeRecord r = .ok i) (s : State) :
    step (deliver r s) = exec i s :=
  step_eq_exec rfl hdec

/-- DISP_STROBE is the word in `C10` (R60). -/
theorem exec_dispStrobe (s : State) : exec .dispStrobe s = exec (decodeWord s.c10) s := apply_eq_exec s

theorem byteArg_ofNat {w : Nat} (hw : w < 2 ^ 8) : BitVec.ofNat 16 w = 0#8 ++ BitVec.ofNat 8 w := by
  apply BitVec.eq_of_toNat_eq
  rw [append_toNat]
  simp only [BitVec.toNat_ofNat]
  omega

/-- A byte's row is delivered by the BYTE_IN of that byte (R83). -/
theorem step_deliver_byteIn {w : Nat} (hw : w < 2 ^ 8) (s : State) :
    step (deliver (packOp 0x8 0 (BitVec.ofNat 16 w)) s) = exec (decodeByte (BitVec.ofNat 8 w)) s := by
  have hdec : decodeRecord (packOp 0x8 0 (BitVec.ofNat 16 w)) = .ok (.byteIn (BitVec.ofNat 8 w)) := by
    rw [byteArg_ofNat hw]
    exact Laws.DecodeEncode.byteIn _ rfl
  exact (step_deliver hdec s).trans (execByteIn_eq_exec _ s)

theorem step_deliver_dispStrobe (s : State) : step (deliver (packOp 0x3 0 0) s) = exec (decodeWord s.c10) s :=
  (step_deliver (Laws.DecodeEncode.dispStrobe rfl) s).trans (exec_dispStrobe s)

/-! ## The row of an opcode table, by its width -/

theorem decodeTableWord_byte {nbits w : Nat} {i : Instr} (hn : nbits ≤ 8) (h : decodeTableWord nbits w = some i) :
    w < 2 ^ 8 ∧ i = decodeByte (BitVec.ofNat 8 w) := by
  rw [decodeTableWord, if_pos hn] at h
  split_ifs at h with hw
  injection h with h
  exact ⟨hw, h.symm⟩

theorem decodeTableWord_word {nbits w : Nat} {i : Instr} (hlo : 8 < nbits) (hhi : nbits ≤ 16)
    (h : decodeTableWord nbits w = some i) : i = decodeWord (BitVec.ofNat 15 w) := by
  rw [decodeTableWord, if_neg (by omega), if_pos hhi] at h
  split_ifs at h
  injection h with h
  exact h.symm

theorem decodeTableWord_record {nbits w : Nat} {i : Instr} (hn : 16 < nbits) (h : decodeTableWord nbits w = some i) :
    decodeRecord (BitVec.ofNat 32 w) = .ok i := by
  rw [decodeTableWord, if_neg (by omega), if_neg (by omega)] at h
  split_ifs at h
  cases hdec : decodeRecord (BitVec.ofNat 32 w) with
  | error e => simp [hdec, Except.toOption] at h
  | ok j => simpa [hdec, Except.toOption] using h

/-- Settles O6: by the row's width, the placed record decodes to the row itself, to DISP_STROBE, or to BYTE_IN. -/
theorem placedInstructionIsRunNext : Obligations.PlacedInstructionIsRunNext := by
  intro s nbits w i h
  refine ⟨fun hn => ?_, fun hlo hhi => ?_, fun hn => ?_⟩
  · obtain ⟨hw, rfl⟩ := decodeTableWord_byte hn h
    rw [State.withFetchWord, if_pos hn]
    exact step_deliver_byteIn hw s
  · rw [State.withFetchWord, if_neg (by omega), if_pos hhi, decodeTableWord_word hlo hhi h]
    exact step_deliver_dispStrobe _
  · rw [State.withFetchWord, if_neg (by omega), if_neg (by omega)]
    exact step_deliver (decodeTableWord_record hn h) s

/-- Settles O7: DISP_STROBE is the word in `C10`, completes, and writes none of the listed elements (`exec_touches`). -/
theorem dispStrobeRunsTheWordInC10 : Obligations.DispStrobeRunsTheWordInC10 := by
  intro s
  obtain ⟨t, ht⟩ := exec_completes_of_not_byte (i := .dispStrobe) rfl s
  have w := exec_touches ht
  obtain ⟨hpos, hchan, hdata⟩ := w.parser rfl
  obtain ⟨hrefused, hrefusals⟩ := w.refusal rfl
  exact ⟨exec_dispStrobe s, rfl, t, ht, w.c10 rfl, w.c11 rfl, w.s11 rfl, hpos, hchan, hdata, w.conn (by simp),
    w.kout (by simp), hrefused, hrefusals, w.params, w.input⟩

/-! ## DISPLAY_WORD (R52) -/

/-- A CH10_WRITE of a word and a DISP_STROBE after it run the word, with `C10` holding it. -/
theorem run_displayWord {s t : State} {w : BitVec 16} (hin : s.input = [packOp 0x2 0 w, packOp 0x3 0 0])
    (h : exec (decodeWord (assignWhole w)) { s with input := [], c10 := assignWhole w } = .next t) :
    run 2 s = .next t := by
  have hwrite : step s = .next { s with input := [packOp 0x3 0 0], c10 := assignWhole w } :=
    step_eq_exec hin (Laws.DecodeEncode.ch10Write w rfl)
  have hstrobe : step { s with input := [packOp 0x3 0 0], c10 := assignWhole w } = .next t :=
    (step_deliver_dispStrobe { s with input := [], c10 := assignWhole w }).trans h
  rw [run_succ hwrite, run_succ hstrobe, run_zero]

end Sys2Proof.Machine
end

section
/-! The digit part of a relay word (42_display_decoder.md R61, R62) in closed form: what DIGIT_UPDATE of a list of
fields appends to the display's output and to the conditions, and what it writes in the cache. -/

namespace Sys2Proof.Machine

open Sys2Proof.Safety

/-- A digit field and the pattern for it. -/
abbrev FieldPattern := DigitField × BitVec 5

/-- DIGIT_UPDATE of the fields in order (R61). -/
def digitUpdates (l : List FieldPattern) (s : State) : State := l.foldl (fun t x => digitUpdate x.1 x.2 t) s

/-- The commands of one DIGIT_UPDATE, if the display is connected (`up`): the digit of a valid pattern. -/
def digitShown (p : Params) (up : Bool) (x : FieldPattern) : List Bytes :=
  match segDecode x.2 with
  | none => []
  | some d => if up then [DIGIT p x.1 d] else []

/-- The conditions of one DIGIT_UPDATE: an invalid pattern, or a dropped command. -/
def digitReported (up : Bool) (x : FieldPattern) : List Condition :=
  match segDecode x.2 with
  | none => [.invalidPattern x.1 x.2]
  | some _ => if up then [] else [.transportUnavailable .display]

/-- The cache after one DIGIT_UPDATE: a valid pattern is stored. -/
def digitWrite (cache : Vector Digit 21) (x : FieldPattern) : Vector Digit 21 :=
  match segDecode x.2 with
  | none => cache
  | some d => cacheSet cache x.1 d

/-! ## Outputs -/

theorem digitUpdate_eq (x : FieldPattern) (s : State) : digitUpdate x.1 x.2 s = { s with
    dcache := digitWrite s.dcache x
    out := { s.out with display := s.out.display ++ digitShown s.params (roleGet s.conn .display) x }
    cond := s.cond ++ digitReported (roleGet s.conn .display) x } := by
  unfold digitUpdate digitWrite digitShown digitReported
  cases hd : segDecode x.2 with
  | none => simp [report]
  | some d => cases hconn : roleGet s.conn .display <;> simp [emit, hconn, report, encodeDigit_eq]; rfl

theorem digitUpdates_eq (l : List FieldPattern) (s : State) : digitUpdates l s = { s with
    dcache := l.foldl digitWrite s.dcache
    out := { s.out with display := s.out.display ++ l.flatMap (digitShown s.params (roleGet s.conn .display)) }
    cond := s.cond ++ l.flatMap (digitReported (roleGet s.conn .display)) } := by
  unfold digitUpdates
  induction l generalizing s with
  | nil => simp
  | cons x l ih => rw [List.foldl_cons, ih, digitUpdate_eq]; simp

@[simp] theorem digitUpdates_plus (l : List FieldPattern) (s : State) : (digitUpdates l s).plus = s.plus := by
  rw [digitUpdates_eq]
@[simp] theorem digitUpdates_minus (l : List FieldPattern) (s : State) : (digitUpdates l s).minus = s.minus := by
  rw [digitUpdates_eq]
@[simp] theorem digitUpdates_sout (l : List FieldPattern) (s : State) : (digitUpdates l s).sout = s.sout := by
  rw [digitUpdates_eq]
@[simp] theorem digitUpdates_conn (l : List FieldPattern) (s : State) : (digitUpdates l s).conn = s.conn := by
  rw [digitUpdates_eq]
@[simp] theorem digitUpdates_params (l : List FieldPattern) (s : State) : (digitUpdates l s).params = s.params := by
  rw [digitUpdates_eq]
@[simp] theorem digitUpdates_out_indicator (l : List FieldPattern) (s : State) :
    (digitUpdates l s).out.indicator = s.out.indicator := by
  rw [digitUpdates_eq]

/-- One entry for each field: its digit, or a condition. -/
theorem digitEntries_length (p : Params) (up : Bool) (l : List FieldPattern) :
    (l.flatMap (digitShown p up)).length + (l.flatMap (digitReported up)).length = l.length := by
  have one : ∀ x, (digitShown p up x).length + (digitReported up x).length = 1 := fun x => by
    unfold digitShown digitReported
    cases segDecode x.2 <;> cases up <;> rfl
  induction l with
  | nil => rfl
  | cons x l ih =>
    have := one x
    simp only [List.flatMap_cons, List.length_append, List.length_cons]
    omega

theorem mem_digitShown {p : Params} {up : Bool} {x : FieldPattern} {c : Bytes} (h : c ∈ digitShown p up x) :
    ∃ d, c = DIGIT p x.1 d := by
  unfold digitShown at h
  split at h
  · cases h
  · split at h
    · exact ⟨_, List.mem_singleton.mp h⟩
    · cases h

theorem mem_digitReported {up : Bool} {x : FieldPattern} {c : Condition} (h : c ∈ digitReported up x) :
    c = .invalidPattern x.1 x.2 ∨ c = .transportUnavailable .display := by
  unfold digitReported at h
  split at h
  · exact .inl (List.mem_singleton.mp h)
  · split at h
    · cases h
    · exact .inr (List.mem_singleton.mp h)

/-! ## The cache -/

theorem cache_ext {a b : Vector Digit 21} (h : ∀ f, cacheGet a f = cacheGet b f) : a = b := by
  have honto : ∀ k : Fin 21, ∃ f ∈ digitFields, fieldIdx f = k := by decide
  apply Vector.ext
  intro k hk
  obtain ⟨f, -, hf⟩ := honto ⟨k, hk⟩
  simpa [cacheGet, hf] using h f

/-- The digit the last valid pattern for `g` gives. -/
def lastWritten : List FieldPattern → DigitField → Option Digit
  | [], _ => none
  | x :: l, g => (lastWritten l g).or (if g = x.1 then segDecode x.2 else none)

theorem cacheGet_digitWrite (cache : Vector Digit 21) (x : FieldPattern) (g : DigitField) :
    cacheGet (digitWrite cache x) g = (if g = x.1 then segDecode x.2 else none).getD (cacheGet cache g) := by
  unfold digitWrite
  cases segDecode x.2 with
  | none => simp
  | some d => by_cases hg : g = x.1 <;> simp [hg]

theorem cacheGet_digitWrites (l : List FieldPattern) (cache : Vector Digit 21) (g : DigitField) :
    cacheGet (l.foldl digitWrite cache) g = (lastWritten l g).getD (cacheGet cache g) := by
  induction l generalizing cache with
  | nil => rfl
  | cons x l ih => rw [List.foldl_cons, ih, cacheGet_digitWrite, lastWritten, Option.getD_or]

theorem digitWrites_again (l : List FieldPattern) (cache : Vector Digit 21) :
    l.foldl digitWrite (l.foldl digitWrite cache) = l.foldl digitWrite cache :=
  cache_ext fun g => by
    simp only [cacheGet_digitWrites]
    cases lastWritten l g <;> rfl

end Sys2Proof.Machine
end

section
/-! The sign part of a relay word (42_display_decoder.md R63, R64): at most one command, and none when the same sign bit
is offered to the same flag again. -/

namespace Sys2Proof.Machine

open Sys2Proof.Safety

/-- A row's flag of either kind. -/
def rowFlag (r : Row) (w : SignFlag) (s : State) : Bool :=
  match w with
  | .plus => rowGet s.plus r
  | .minus => rowGet s.minus r

/-! ## Outputs -/

/-- The commands of SIGN_UPDATE, if the display is connected (`up`): the net sign, if it changed. -/
def signShown (p : Params) (up : Bool) (r : Row) (old new : Sign) : List Bytes :=
  if new ≠ old ∧ up then [SIGN p r new] else []

/-- The conditions of SIGN_UPDATE: a dropped command. -/
def signReported (up : Bool) (old new : Sign) : List Condition :=
  if new ≠ old ∧ up = false then [.transportUnavailable .display] else []

theorem commandSign_eq (r : Row) (n : Sign) (s : State) : commandSign r n s = { s with
    sout := rowSet s.sout r n
    out := { s.out with
      display := s.out.display ++ signShown s.params (roleGet s.conn .display) r (rowGet s.sout r) n }
    cond := s.cond ++ signReported (roleGet s.conn .display) (rowGet s.sout r) n } := by
  unfold commandSign signShown signReported
  split
  case isTrue h => simp [h]
  case isFalse h =>
    cases hconn : roleGet s.conn .display <;> simp [h, emit, hconn, report, encodeSign_eq]
    rfl

/-! ## The same sign bit again -/

theorem newFlag_again (mode : SignFlagMode) (old sb : Bool) :
    newFlag mode (newFlag mode old sb) sb = newFlag mode old sb := by
  cases mode <;> cases sb <;> rfl

theorem netSign_again (prec : SignPrecedence) (p m : Bool) (prev : Sign) (w : SignFlag) (sb : Bool) :
    netSign prec p m (netSign prec p m prev w sb) w sb = netSign prec p m prev w sb := by
  cases p <;> cases m
  case true.true =>
    have hnamed : flagSign w ≠ .blank := by cases w <;> decide
    simp only [netSign]
    split_ifs <;> simp_all
  all_goals rfl

/-- The row's flag and net sign are already what SIGN_UPDATE would make them. -/
structure SignSettled (r : Row) (w : SignFlag) (sb : Bool) (s : State) : Prop where
  flag : newFlag s.params.signFlagMode (rowFlag r w s) sb = rowFlag r w s
  sign : rowNet r w sb s = rowGet s.sout r

theorem offerSign_of_settled {r : Row} {w : SignFlag} {sb : Bool} {s : State} (h : SignSettled r w sb s) :
    offerSign r w sb s = s := by
  have hflag := h.flag
  cases w <;> simp only [rowFlag] at hflag <;> simp [offerSign, hflag]

theorem signUpdate_of_settled {r : Row} {w : SignFlag} {sb : Bool} {s : State} (h : SignSettled r w sb s) :
    signUpdate r w sb s = s := by
  rw [signUpdate, offerSign_of_settled h, commandSign_keep r _ _ h.sign]

theorem signUpdate_settled (r : Row) (w : SignFlag) (sb : Bool) (s : State) :
    SignSettled r w sb (signUpdate r w sb s) := by
  constructor
  · cases w <;> simp [rowFlag, signUpdate_plus, signUpdate_minus, offerSign, newFlag_again]
  · rw [signUpdate_sout, rowGet_rowSet, if_pos rfl]
    cases w <;>
      simp [rowNet, signUpdate_plus, signUpdate_minus, signUpdate_sout, offerSign, netSign_again]

end Sys2Proof.Machine
end

section
/-! The relay words that carry digits (30_encoding.md R40), each as its digit fields and, if it carries one, its sign; and
what running one again does (20_memory.md R32). -/

namespace Sys2Proof.Machine

open Sys2Proof.Safety

/-- A relay word that carries digits is DIGIT_UPDATE of its fields, and after it SIGN_UPDATE of its row if it has one
(R61). -/
theorem exec_digitWord {i : Instr} (hi : fieldsOf i ≠ []) : ∃ l : List FieldPattern, l.map (·.1) = fieldsOf i ∧
    (((∀ r, writesSign r i = false) ∧ ∀ s, exec i s = .next (digitUpdates l s)) ∨
      ∃ r w sb, writesSign r i = true ∧ ∀ s, exec i s = .next (signUpdate r w sb (digitUpdates l s))) := by
  cases i with
  | rw1 sb up lo => exact ⟨[(.r3d4, up), (.r3d5, lo)], rfl, .inr ⟨.r3, .minus, sb, rfl, fun _ => rfl⟩⟩
  | rw2 sb up lo => exact ⟨[(.r3d2, up), (.r3d3, lo)], rfl, .inr ⟨.r3, .plus, sb, rfl, fun _ => rfl⟩⟩
  | rw3 sb up lo => exact ⟨[(.r2d5, up), (.r3d1, lo)], rfl, .inl ⟨fun r => by cases r <;> rfl, fun _ => rfl⟩⟩
  | rw4 sb up lo => exact ⟨[(.r2d3, up), (.r2d4, lo)], rfl, .inr ⟨.r2, .minus, sb, rfl, fun _ => rfl⟩⟩
  | rw5 sb up lo => exact ⟨[(.r2d1, up), (.r2d2, lo)], rfl, .inr ⟨.r2, .plus, sb, rfl, fun _ => rfl⟩⟩
  | rw6 sb up lo => exact ⟨[(.r1d4, up), (.r1d5, lo)], rfl, .inr ⟨.r1, .minus, sb, rfl, fun _ => rfl⟩⟩
  | rw7 sb up lo => exact ⟨[(.r1d2, up), (.r1d3, lo)], rfl, .inr ⟨.r1, .plus, sb, rfl, fun _ => rfl⟩⟩
  | rw8 sb up lo => exact ⟨[(.r1d1, lo)], rfl, .inl ⟨fun r => by cases r <;> rfl, fun _ => rfl⟩⟩
  | rw9 sb up lo => exact ⟨[(.nd1, up), (.nd2, lo)], rfl, .inl ⟨fun r => by cases r <;> rfl, fun _ => rfl⟩⟩
  | rw10 sb up lo => exact ⟨[(.vd1, up), (.vd2, lo)], rfl, .inl ⟨fun r => by cases r <;> rfl, fun _ => rfl⟩⟩
  | rw11 sb up lo => exact ⟨[(.md1, up), (.md2, lo)], rfl, .inl ⟨fun r => by cases r <;> rfl, fun _ => rfl⟩⟩
  | _ => exact absurd rfl hi

/-! ## Running a digit word again -/

/-- The entries that a word's sign may add to the display's output and to the conditions. -/
structure SignPart (i : Instr) (p : Params) (cmds : List Bytes) (conds : List Condition) : Prop where
  length_le : cmds.length + conds.length ≤ 1
  command : ∀ c ∈ cmds, ∃ r n, writesSign r i = true ∧ c = SIGN p r n
  condition : ∀ c ∈ conds, c = .transportUnavailable .display
  unsigned : (∀ r, writesSign r i = false) → cmds = [] ∧ conds = []

theorem signPart_nil (i : Instr) (p : Params) : SignPart i p [] [] := by
  constructor <;> simp

theorem signShown_signPart {i : Instr} {r : Row} (hr : writesSign r i = true) (p : Params) (up : Bool)
    (old new : Sign) : SignPart i p (signShown p up r old new) (signReported up old new) := by
  have hsigned : ¬∀ r, writesSign r i = false := fun h => by simp [h r] at hr
  unfold signShown signReported
  by_cases hn : new = old
  · simpa [hn] using signPart_nil i p
  · cases up <;> constructor <;> simp [hn, hsigned]
    exact ⟨r, hr, new, rfl⟩

theorem signUpdate_display (r : Row) (w : SignFlag) (sb : Bool) (s : State) :
    (signUpdate r w sb s).out.display = s.out.display ++ signShown s.params (roleGet s.conn .display) r (rowGet s.sout r)
      (rowNet r w sb (offerSign r w sb s)) := by
  rw [signUpdate, commandSign_eq]; simp

theorem signUpdate_cond (r : Row) (w : SignFlag) (sb : Bool) (s : State) :
    (signUpdate r w sb s).cond = s.cond ++ signReported (roleGet s.conn .display) (rowGet s.sout r)
      (rowNet r w sb (offerSign r w sb s)) := by
  rw [signUpdate, commandSign_eq]; simp

/-- DIGIT_UPDATE leaves a settled sign settled. -/
theorem digitUpdates_signSettled {r : Row} {w : SignFlag} {sb : Bool} {t : State} (h : SignSettled r w sb t)
    (l : List FieldPattern) : SignSettled r w sb (digitUpdates l t) := by
  rw [digitUpdates_eq]
  exact ⟨h.flag, h.sign⟩

/-- What a digit word's two runs are: the digits and the sign; then the digits alone. -/
theorem digitWord_twice {i : Instr} {s t u : State} (hi : fieldsOf i ≠ []) (ht : exec i s = .next t)
    (hu : exec i t = .next u) : ∃ (l : List FieldPattern) (sgn : List Bytes) (sgnConds : List Condition),
      l.map (·.1) = fieldsOf i ∧ SignPart i s.params sgn sgnConds ∧ t.dcache = (digitUpdates l s).dcache ∧
      t.out.display = (digitUpdates l s).out.display ++ sgn ∧ t.cond = (digitUpdates l s).cond ++ sgnConds ∧
      u = digitUpdates l t := by
  obtain ⟨l, hl, ⟨-, hexec⟩ | ⟨r, w, sb, hr, hexec⟩⟩ := exec_digitWord hi <;> rw [hexec] at ht hu <;>
    injection ht with ht <;> injection hu with hu <;> subst ht hu
  · exact ⟨l, [], [], hl, signPart_nil i _, rfl, by simp, by simp, rfl⟩
  · have hsettled := digitUpdates_signSettled (signUpdate_settled r w sb (digitUpdates l s)) l
    refine ⟨l, _, _, hl, ?_, by simp, signUpdate_display r w sb _, signUpdate_cond r w sb _,
      signUpdate_of_settled hsettled⟩
    rw [digitUpdates_params]
    exact signShown_signPart hr _ _ _ _

/-- Settles O42: the two runs show and report the same digits (`digitUpdates_eq`), as neither the parameters nor the
connection changed between them; the cache has the digits already, and the sign is settled. -/
theorem validDigitsAreEmittedEveryTime : Obligations.ValidDigitsAreEmittedEveryTime := by
  intro i s t u hi ht hu
  obtain ⟨l, sgn, sgnConds, hl, hsign, hcache, hdisplay, hcond, rfl⟩ := digitWord_twice hi ht hu
  have w := exec_touches ht
  have hconn : t.conn = s.conn := w.conn (by rintro ⟨role, up, rfl⟩; exact hi rfl)
  rw [digitUpdates_eq] at hcache hdisplay hcond
  refine ⟨l.flatMap (digitShown s.params (roleGet s.conn .display)), sgn,
    l.flatMap (digitReported (roleGet s.conn .display)), sgnConds, hdisplay, hcond, ?_, ?_, ?_,
    hsign.length_le, hsign.command, hsign.condition, hsign.unsigned, ?_⟩
  · rw [digitEntries_length, ← hl, List.length_map]
  · intro c hc
    obtain ⟨x, hx, hcx⟩ := List.mem_flatMap.mp hc
    exact ⟨x.1, hl ▸ List.mem_map_of_mem hx, mem_digitShown hcx⟩
  · intro c hc
    obtain ⟨x, hx, hcx⟩ := List.mem_flatMap.mp hc
    exact (mem_digitReported hcx).imp_left fun h => ⟨x.1, hl ▸ List.mem_map_of_mem hx, x.2, h⟩
  · have hagain : l.foldl digitWrite t.dcache = t.dcache := by rw [hcache]; exact digitWrites_again l s.dcache
    rw [digitUpdates_eq, hagain, w.params, hconn]

end Sys2Proof.Machine
end

section
/-! One relay word at a time (42_display_decoder.md R60, R66 to R79): its mask selects its instruction, which runs the
shared operations its rule names; and what its examples send from power-on. -/

namespace Sys2Proof.Machine

open Sys2Proof.Safety

/-! ## Selection -/

/-- The mask of the opcode table selects the relay word (R38). -/
theorem wordRw_of_mask {w : ChanWord} {rw : BitVec 4} (h : w &&& 0x7800#15 = rw.setWidth 15 <<< 11) : wordRw w = rw := by
  have hfield := congrArg (·.extractLsb' 11 4) h
  have hmask : (0x7800#15).extractLsb' 11 4 = BitVec.allOnes 4 := rfl
  have hrw : ∀ x : BitVec 4, (x.setWidth 15 <<< 11).extractLsb' 11 4 = x := by decide
  simpa only [wordRw, BitVec.extractLsb'_and, hmask, BitVec.and_allOnes, hrw] using hfield

/-- R60 for one relay word: its row of the dispatch is `mk`, and `mk` runs as `R` says. -/
theorem relayWordRuns {rw : BitVec 4} {mk : Bool → BitVec 5 → BitVec 5 → Instr}
    {R : Bool → BitVec 5 → BitVec 5 → State → State → Prop} (hmk : relayInstr rw = mk)
    (hrun : ∀ sb up lo s, ∃ t, exec (mk sb up lo) s = .next t ∧ R sb up lo s t) : RelayWordRuns rw mk R := by
  refine ⟨fun w hw => ?_, hrun⟩
  rw [decodeWord, wordRw_of_mask hw, hmk, wordSb, wordUp, wordLo]

theorem twoFieldsAndSign_runs (fu fl : DigitField) (r : Row) (which : SignFlag) (sb : Bool) (up lo : BitVec 5)
    (s : State) : TwoFieldsAndSign fu fl r which sb up lo s
      (signUpdate r which sb (digitUpdate fl lo (digitUpdate fu up s))) :=
  ⟨_, _, digitUpdate_step fu up s, digitUpdate_step fl lo _, signUpdate_step r which sb _⟩

theorem twoFields_runs (fu fl : DigitField) (sb : Bool) (up lo : BitVec 5) (s : State) :
    TwoFields fu fl sb up lo s (digitUpdate fl lo (digitUpdate fu up s)) :=
  ⟨_, digitUpdate_step fu up s, digitUpdate_step fl lo _⟩

/-! ## Digit words from power-on -/

/-- A row without flags, under either flag mode: a sign bit 1 gives its flag's sign, and 0 none (R63, R64). -/
theorem rowNet_of_no_flags {r : Row} {s : State} (hplus : rowGet s.plus r = false) (hminus : rowGet s.minus r = false)
    (w : SignFlag) (sb : Bool) : rowNet r w sb (offerSign r w sb s) = if sb then flagSign w else .blank := by
  cases hmode : s.params.signFlagMode <;> cases w <;> cases sb <;>
    simp [rowNet, offerSign, newFlag, netSign, flagSign, hmode, hplus, hminus]

/-- So a row without flags and sign is sent its first sign by a sign bit 1 alone. -/
theorem signUpdate_display_of_no_flags {r : Row} {s : State} (hconn : roleGet s.conn .display = true)
    (hplus : rowGet s.plus r = false) (hminus : rowGet s.minus r = false) (hblank : rowGet s.sout r = .blank)
    (w : SignFlag) (sb : Bool) : (signUpdate r w sb s).out.display =
      s.out.display ++ if sb then [SIGN s.params r (flagSign w)] else [] := by
  have hnamed : flagSign w ≠ .blank := by cases w <;> decide
  rw [signUpdate_display, rowNet_of_no_flags hplus hminus, hconn, hblank]
  cases sb <;> simp [signShown, hnamed]

section PowerOn
variable {p : Params} (hconn : roleGet p.connAtPowerOn .display = true)
include hconn

theorem digitUpdates_powerOn_display (l : List FieldPattern) :
    (digitUpdates l (State.powerOn p)).out.display = l.flatMap (digitShown p true) := by
  rw [digitUpdates_eq, ← hconn]
  rfl

theorem digitUpdates_powerOn_cond (l : List FieldPattern) :
    (digitUpdates l (State.powerOn p)).cond = l.flatMap (digitReported true) := by
  rw [digitUpdates_eq, ← hconn]
  rfl

theorem signUpdate_powerOn_display (r : Row) (w : SignFlag) (sb : Bool) (l : List FieldPattern) :
    (signUpdate r w sb (digitUpdates l (State.powerOn p))).out.display =
      l.flatMap (digitShown p true) ++ if sb then [SIGN p r (flagSign w)] else [] := by
  have hplus : rowGet (digitUpdates l (State.powerOn p)).plus r = false := by
    rw [digitUpdates_plus]; cases r <;> rfl
  have hminus : rowGet (digitUpdates l (State.powerOn p)).minus r = false := by
    rw [digitUpdates_minus]; cases r <;> rfl
  have hblank : rowGet (digitUpdates l (State.powerOn p)).sout r = .blank := by
    rw [digitUpdates_sout]; cases r <;> rfl
  rw [signUpdate_display_of_no_flags (by rw [digitUpdates_conn]; exact hconn) hplus hminus hblank,
    digitUpdates_powerOn_display hconn, digitUpdates_params]
  rfl

end PowerOn

/-! ## The obligations -/

/-- Settles O27: R66 reads no field, and DISPLAY_WORD 0x03BD writes `C10` and runs it. -/
theorem relayWordZeroDoesNothing : Obligations.RelayWordZeroDoesNothing :=
  ⟨relayWordRuns rfl fun _ _ _ s => ⟨s, rfl, rfl⟩, fun _ hin => run_displayWord (w := 0x03BD) hin rfl⟩

/-- Settles O33: R79 appends one condition, and DISPLAY_WORD 0x6863 writes `C10` and runs it. -/
theorem relayWordsAboveTwelveAreInvalid : Obligations.RelayWordsAboveTwelveAreInvalid :=
  ⟨relayWordRuns rfl fun _ _ _ _ => ⟨_, rfl, rfl⟩, relayWordRuns rfl fun _ _ _ _ => ⟨_, rfl, rfl⟩,
    relayWordRuns rfl fun _ _ _ _ => ⟨_, rfl, rfl⟩, fun _ hin => run_displayWord (w := 0x6863) hin rfl⟩

/-- Settles O28: the words are DIGIT_UPDATE, DIGIT_UPDATE, SIGN_UPDATE; each example is such a chain at power-on. -/
theorem minusSignWordsUpdateFieldsThenSign : Obligations.MinusSignWordsUpdateFieldsThenSign := by
  refine ⟨relayWordRuns rfl fun sb up lo s => ⟨_, rfl, twoFieldsAndSign_runs .r3d4 .r3d5 .r3 .minus sb up lo s⟩,
    relayWordRuns rfl fun sb up lo s => ⟨_, rfl, twoFieldsAndSign_runs .r2d3 .r2d4 .r2 .minus sb up lo s⟩,
    relayWordRuns rfl fun sb up lo s => ⟨_, rfl, twoFieldsAndSign_runs .r1d4 .r1d5 .r1 .minus sb up lo s⟩,
    fun p hconn => ⟨⟨_, rfl, ?_⟩, ⟨_, rfl, ?_⟩, ⟨_, rfl, ?_⟩⟩⟩
  · exact signUpdate_powerOn_display hconn .r3 .minus true [(.r3d4, 3), (.r3d5, 25)]
  · exact signUpdate_powerOn_display hconn .r2 .minus false [(.r2d3, 19), (.r2d4, 29)]
  · exact signUpdate_powerOn_display hconn .r1 .minus true [(.r1d4, 0), (.r1d5, 30)]

/-- Settles O29: as O28, with the plus flags. -/
theorem plusSignWordsUpdateFieldsThenSign : Obligations.PlusSignWordsUpdateFieldsThenSign := by
  refine ⟨relayWordRuns rfl fun sb up lo s => ⟨_, rfl, twoFieldsAndSign_runs .r3d2 .r3d3 .r3 .plus sb up lo s⟩,
    relayWordRuns rfl fun sb up lo s => ⟨_, rfl, twoFieldsAndSign_runs .r2d1 .r2d2 .r2 .plus sb up lo s⟩,
    relayWordRuns rfl fun sb up lo s => ⟨_, rfl, twoFieldsAndSign_runs .r1d2 .r1d3 .r1 .plus sb up lo s⟩,
    fun p hconn => ⟨⟨_, rfl, ?_⟩, ⟨_, rfl, ?_⟩, ⟨_, rfl, ?_⟩⟩⟩
  · exact signUpdate_powerOn_display hconn .r3 .plus true [(.r3d2, 27), (.r3d3, 15)]
  · exact signUpdate_powerOn_display hconn .r2 .plus true [(.r2d1, 31), (.r2d2, 21)]
  · exact signUpdate_powerOn_display hconn .r1 .plus true [(.r1d2, 29), (.r1d3, 27)]

/-- Settles O30: the words are DIGIT_UPDATE, DIGIT_UPDATE; each example is such a chain at power-on. -/
theorem unsignedWordsUpdateTheirTwoFields : Obligations.UnsignedWordsUpdateTheirTwoFields := by
  refine ⟨relayWordRuns rfl fun sb up lo s => ⟨_, rfl, twoFields_runs .r2d5 .r3d1 sb up lo s⟩,
    relayWordRuns rfl fun sb up lo s => ⟨_, rfl, twoFields_runs .nd1 .nd2 sb up lo s⟩,
    relayWordRuns rfl fun sb up lo s => ⟨_, rfl, twoFields_runs .vd1 .vd2 sb up lo s⟩,
    relayWordRuns rfl fun sb up lo s => ⟨_, rfl, twoFields_runs .md1 .md2 sb up lo s⟩,
    fun p hconn => ⟨⟨_, rfl, ?_⟩, ⟨_, rfl, ?_⟩, ⟨_, rfl, ?_, ?_⟩, ⟨_, rfl, ?_⟩, ⟨_, rfl, ?_⟩⟩⟩
  · exact digitUpdates_powerOn_display hconn [(.r2d5, 30), (.r3d1, 28)]
  · exact digitUpdates_powerOn_display hconn [(.nd1, 3), (.nd2, 28)]
  · exact digitUpdates_powerOn_display hconn [(.nd1, 1), (.nd2, 28)]
  · exact digitUpdates_powerOn_cond hconn [(.nd1, 1), (.nd2, 28)]
  · exact digitUpdates_powerOn_display hconn [(.vd1, 27), (.vd2, 19)]
  · exact digitUpdates_powerOn_display hconn [(.md1, 29), (.md2, 29)]

/-- Settles O31: the word is the DIGIT_UPDATE of its lower pattern. -/
theorem relayWordEightReadsOnlyTheLowerPattern : Obligations.RelayWordEightReadsOnlyTheLowerPattern := by
  refine ⟨relayWordRuns rfl fun _ _ lo s => ⟨_, rfl, digitUpdate_step .r1d1 lo s⟩,
    fun p hconn => ⟨_, rfl, digitUpdates_powerOn_display hconn [(.r1d1, 15)], ?_,
      digitUpdates_powerOn_cond hconn [(.r1d1, 15)]⟩⟩
  exact digitUpdate_out_indicator .r1d1 15 (State.powerOn p)

end Sys2Proof.Machine
end

section
/-! Relay word 12 (42_display_decoder.md R65, R78): the six lamps come from six bits of the two patterns, and no other
bit of the word is read. -/

namespace Sys2Proof.Machine

open Sys2Proof.Safety

/-- The lamp bits of a word (R42): register bits 3, 4, 5 are in the lower pattern, 6, 8, 9 in the upper. -/
def patternLamps (up lo : BitVec 5) : LampBit → Bool
  | .b3 => lo.getLsbD 2
  | .b4 => lo.getLsbD 3
  | .b5 => lo.getLsbD 4
  | .b6 => up.getLsbD 0
  | .b8 => up.getLsbD 2
  | .b9 => up.getLsbD 3

theorem lampSource_packWord (rw : BitVec 4) (sb : Bool) (up lo : BitVec 5) :
    lampSource (packWord rw sb up lo) = patternLamps up lo := by
  have hlow : ∀ k < 5, (packWord rw sb up lo).getLsbD k = lo.getLsbD k := fun k hk => by
    simpa [wordLo, hk] using congrArg (·.getLsbD k) (wordLo_packWord rw sb up lo)
  have hhigh : ∀ k < 5, (packWord rw sb up lo).getLsbD (5 + k) = up.getLsbD k := fun k hk => by
    simpa [wordUp, hk] using congrArg (·.getLsbD k) (wordUp_packWord rw sb up lo)
  funext b
  cases b with
  | b3 => exact hlow 2 (by decide)
  | b4 => exact hlow 3 (by decide)
  | b5 => exact hlow 4 (by decide)
  | b6 => exact hhigh 0 (by decide)
  | b8 => exact hhigh 2 (by decide)
  | b9 => exact hhigh 3 (by decide)

theorem exec_rw12 (sb : Bool) (up lo : BitVec 5) (s : State) :
    exec (.rw12 sb up lo) s = .next (lamp12Update (patternLamps up lo) s) := by
  rw [← lampSource_packWord 12 sb up lo]
  rfl

/-- Only the bits under the two masks are lamps. -/
theorem patternLamps_of_masks {up lo up' lo' : BitVec 5} (hup : up &&& 0b01101#5 = up' &&& 0b01101#5)
    (hlo : lo &&& 0b11100#5 = lo' &&& 0b11100#5) : patternLamps up lo = patternLamps up' lo' := by
  have hu : ∀ k, (0b01101#5).getLsbD k = true → up.getLsbD k = up'.getLsbD k := fun k hk => by
    simpa [hk] using congrArg (·.getLsbD k) hup
  have hl : ∀ k, (0b11100#5).getLsbD k = true → lo.getLsbD k = lo'.getLsbD k := fun k hk => by
    simpa [hk] using congrArg (·.getLsbD k) hlo
  funext b
  cases b with
  | b3 => exact hl 2 rfl
  | b4 => exact hl 3 rfl
  | b5 => exact hl 4 rfl
  | b6 => exact hu 0 rfl
  | b8 => exact hu 2 rfl
  | b9 => exact hu 3 rfl

/-- A word with the same six bits is silent the second time. -/
theorem exec_rw12_again {sb sb' : Bool} {up lo up' lo' : BitVec 5} {s t : State} (ht : exec (.rw12 sb up lo) s = .next t)
    (hup : up &&& 0b01101#5 = up' &&& 0b01101#5) (hlo : lo &&& 0b11100#5 = lo' &&& 0b11100#5) :
    exec (.rw12 sb' up' lo') t = .next t := by
  rw [exec_rw12] at ht
  injection ht with ht
  rw [exec_rw12, ← patternLamps_of_masks hup hlo, ← ht, lamp12Update_again]

/-- A connected indicator whose lamps are off is sent the lamps that come on (R65). -/
theorem lamp12Update_indicator_of_off {s : State} (hconn : roleGet s.conn .indicator = true)
    (hoff : ∀ b, lampGet s.l12 b = false) (bit : LampBit → Bool) : (lamp12Update bit s).out.indicator =
      s.out.indicator ++ (lampBits.filter bit).map fun b => LAMP s.params (lampGet s.params.lamp12Map b) true := by
  obtain ⟨-, -, hout, -⟩ := lamp12Update_step bit s
  refine (hout .indicator).trans (congrArg (s.out.indicator ++ ·) ?_)
  change ((lampBits.filterMap _).filter _).map _ = _
  generalize lampBits = l
  induction l with
  | nil => rfl
  | cons b l ih => cases hb : bit b <;> simpa [hb, hoff, hconn] using ih

/-- Settles O32: the lamps of the word are `patternLamps` of its patterns, which the masks of the second clause keep. -/
theorem relayWordTwelveDrivesTheLamps : Obligations.RelayWordTwelveDrivesTheLamps := by
  refine ⟨relayWordRuns rfl fun sb up lo s => ⟨_, exec_rw12 sb up lo s, lamp12Update_step (patternLamps up lo) s⟩,
    fun _ _ _ _ _ _ _ _ => exec_rw12_again, fun p hconn hmap => ⟨_, exec_rw12 false 8 4 _, ?_, ?_⟩⟩
  · have hoff : ∀ b, lampGet (State.powerOn p).l12 b = false := fun b => by cases b <;> rfl
    have hb3 : p.lamp12Map.b3 = .vel := by rw [hmap]; rfl
    have hb9 : p.lamp12Map.b9 = .prog := by rw [hmap]; rfl
    rw [lamp12Update_indicator_of_off (s := State.powerOn p) hconn hoff, ← hb3, ← hb9]
    rfl
  · exact exec_rw12_again (exec_rw12 false 8 4 _) (up' := 26) (lo' := 7) rfl rfl

end Sys2Proof.Machine
end

section
/-! What a relay word leaves alone (42_display_decoder.md R60, R61, 30_encoding.md R40), and the sign flags under each
SIGN_FLAG_MODE (R63, R64; 90_conflicts.md C1). -/

namespace Sys2Proof.Machine

open Sys2Proof.Safety

/-! ## The frame of a relay word -/

theorem relayInstr_isRelayWord (rw : BitVec 4) (sb : Bool) (up lo : BitVec 5) :
    isRelayWord (relayInstr rw sb up lo) = true := by
  rcases relayWord_cases rw with e | e | e | e | e | e | e | e | e | e | e | e | e | e | e | e <;> subst e <;> rfl

/-- A relay word is a writer of the display's own elements alone: of the digit fields, those it carries. -/
theorem relayWord_writes {i : Instr} (hi : isRelayWord i = true) : writesC10 i = false ∧ writesC11 i = false ∧
    writesS11 i = false ∧ isByte i = false ∧ isRefused i = false ∧
    ∀ f, writesField f i = (fieldsOf i).contains f := by
  obtain ⟨rw, sb, up, lo, rfl⟩ := exists_relayInstr hi
  rcases relayWord_cases rw with e | e | e | e | e | e | e | e | e | e | e | e | e | e | e | e <;> subst e <;>
    exact ⟨rfl, rfl, rfl, rfl, rfl, fun _ => rfl⟩

/-- The relay words that carry no digit: the no-op, the lamps, and the invalid ones. -/
theorem exec_digitlessWord {i : Instr} (hi : isRelayWord i = true) (hf : fieldsOf i = []) :
    (∀ s, exec i s = .next s) ∨ (writesL12 i = true ∧ ∃ bit, ∀ s, exec i s = .next (lamp12Update bit s)) ∨
      ∃ c, ∀ s, exec i s = .next (report c s) := by
  cases i with
  | rw0 => exact .inl fun _ => rfl
  | rw12 => exact .inr (.inl ⟨rfl, _, fun _ => rfl⟩)
  | rw13 | rw14 | rw15 => exact .inr (.inr ⟨_, fun _ => rfl⟩)
  | rw1 | rw2 | rw3 | rw4 | rw5 | rw6 | rw7 | rw8 | rw9 | rw10 | rw11 => cases hf
  | _ => cases hi

theorem relayWord_out_display {i : Instr} {s t : State} (hi : isRelayWord i = true) (hf : fieldsOf i = [])
    (h : exec i s = .next t) : t.out.display = s.out.display := by
  obtain hexec | ⟨-, bit, hexec⟩ | ⟨c, hexec⟩ := exec_digitlessWord hi hf <;> rw [hexec] at h <;>
    injection h with h <;> subst h
  · rfl
  · exact lamp12Update_out_display bit s
  · rfl

theorem relayWord_out_indicator {i : Instr} {s t : State} (hi : isRelayWord i = true) (hl : writesL12 i = false)
    (h : exec i s = .next t) : t.out.indicator = s.out.indicator := by
  by_cases hf : fieldsOf i = []
  · obtain hexec | ⟨hlamps, -⟩ | ⟨c, hexec⟩ := exec_digitlessWord hi hf
    · rw [hexec] at h; injection h with h; rw [h]
    · exact absurd hlamps (by simp [hl])
    · rw [hexec] at h; injection h with h; rw [← h, report_out]
  · obtain ⟨l, -, ⟨-, hexec⟩ | ⟨r, w, sb, -, hexec⟩⟩ := exec_digitWord hf <;> rw [hexec] at h <;>
      injection h with h <;> subst h <;> simp

/-- Settles O34: `exec_touches` at the writers of a relay word (`relayWord_writes`), and the outputs by the word's kind. -/
theorem relayWordsChangeOnlyDisplayState : Obligations.RelayWordsChangeOnlyDisplayState := by
  intro i s t hi h
  have w := exec_touches h
  obtain ⟨hc10, hc11, hs11, hbyte, hrefused, hfields⟩ := relayWord_writes hi
  obtain ⟨hpos, hchan, hdata⟩ := w.parser hbyte
  obtain ⟨hmark, hreasons⟩ := w.refusal hrefused
  have hconn : t.conn = s.conn := w.conn (by rintro ⟨role, up, rfl⟩; cases hi)
  have hkout : t.kout = s.kout := w.kout (by rintro ⟨k, rfl⟩; cases hi)
  exact ⟨w.c10 hc10, w.c11 hc11, w.s11 hs11, hpos, hchan, hdata, hconn, hkout, hmark, hreasons, w.params, w.input,
    fun f hf => w.field f (by simpa [hfields] using hf), w.sign,
    fun hl => ⟨w.l12 hl, relayWord_out_indicator hi hl h⟩, fun hf => relayWord_out_display hi hf h⟩

/-! ## The flags after a sign update -/

theorem rowFlag_digitUpdates (r : Row) (w : SignFlag) (l : List FieldPattern) (s : State) :
    rowFlag r w (digitUpdates l s) = rowFlag r w s := by
  cases w <;> simp [rowFlag]

/-- R63: the named flag of the row takes what `newFlag` makes of the sign bit; every other flag is kept. -/
theorem rowFlag_signUpdate (r : Row) (w : SignFlag) (sb : Bool) (s : State) (q : Row) (v : SignFlag) :
    rowFlag q v (signUpdate r w sb s) =
      if q = r ∧ v = w then newFlag s.params.signFlagMode (rowFlag q v s) sb else rowFlag q v s := by
  cases v <;> cases w <;> by_cases hq : q = r <;>
    simp [rowFlag, signUpdate_plus, signUpdate_minus, offerSign, hq]

/-- R64: the row's net sign is that of its two flags as the update leaves them. -/
theorem sout_signUpdate (r : Row) (w : SignFlag) (sb : Bool) (s : State) : rowGet (signUpdate r w sb s).sout r =
    netSign s.params.signPrecedence (rowFlag r .plus (signUpdate r w sb s)) (rowFlag r .minus (signUpdate r w sb s))
      (rowGet s.sout r) w sb := by
  rw [signUpdate_sout, rowGet_rowSet, if_pos rfl]
  cases w <;> simp [rowNet, rowFlag, signUpdate_plus, signUpdate_minus, offerSign]

theorem netSign_of_not_both {p m : Bool} (h : ¬(p = true ∧ m = true)) (prec : SignPrecedence) (prev : Sign)
    (w : SignFlag) (sb : Bool) : netSign prec p m prev w sb = if p then .plus else if m then .minus else .blank := by
  cases p <;> cases m <;> simp_all [netSign]

/-! ## SET_ONLY -/

/-- Every sign flag that is set in `s` is set in `t`. -/
def FlagsKept (s t : State) : Prop := ∀ r w, rowFlag r w s = true → rowFlag r w t = true

theorem flagsKept_iff {s t : State} : FlagsKept s t ↔ ∀ r, (rowGet s.plus r = true → rowGet t.plus r = true) ∧
    (rowGet s.minus r = true → rowGet t.minus r = true) :=
  ⟨fun h r => ⟨h r .plus, h r .minus⟩, fun h r w => by cases w; exacts [(h r).1, (h r).2]⟩

theorem FlagsKept.refl (s : State) : FlagsKept s s := fun _ _ => id

theorem Touches.flagsKept {i : Instr} {s t : State} (h : Touches i s t) (hi : ∀ r, writesSign r i = false) :
    FlagsKept s t :=
  flagsKept_iff.mpr fun r => by
    obtain ⟨hp, hm, -⟩ := h.sign r (hi r)
    rw [hp, hm]
    exact ⟨id, id⟩

/-- Under SET_ONLY a sign bit sets its flag or leaves it (C1). -/
theorem signUpdate_flagsKept {s : State} (hmode : s.params.signFlagMode = .setOnly) (r : Row) (w : SignFlag)
    (sb : Bool) : FlagsKept s (signUpdate r w sb s) := by
  intro q v hset
  rw [rowFlag_signUpdate, hmode, hset]
  cases sb <;> simp [newFlag]

theorem relayWord_flagsKept {i : Instr} {s t : State} (hi : isRelayWord i = true)
    (hmode : s.params.signFlagMode = .setOnly) (h : exec i s = .next t) : FlagsKept s t := by
  by_cases hf : fieldsOf i = []
  · obtain hexec | ⟨-, bit, hexec⟩ | ⟨c, hexec⟩ := exec_digitlessWord hi hf <;> rw [hexec] at h <;>
      injection h with h <;> subst h <;> exact flagsKept_iff.mpr (by simp)
  · obtain ⟨l, -, ⟨-, hexec⟩ | ⟨r, w, sb, -, hexec⟩⟩ := exec_digitWord hf <;> rw [hexec] at h <;>
      injection h with h <;> subst h
    · exact flagsKept_iff.mpr (by simp)
    · intro q v hset
      exact signUpdate_flagsKept (by simpa using hmode) r w sb q v (by rwa [rowFlag_digitUpdates])

/-- The word that a DISP_STROBE or a channel-8 frame runs. -/
theorem apply_flagsKept {s t : State} (hmode : s.params.signFlagMode = .setOnly) (h : apply s = .next t) :
    FlagsKept s t :=
  relayWord_flagsKept (relayInstr_isRelayWord _ _ _ _) hmode ((apply_eq_exec s).symm.trans h)

theorem ByteDoes.flagsKept {s t : State} (h : ByteDoes s t) (hmode : s.params.signFlagMode = .setOnly) :
    FlagsKept s t := by
  cases h with
  | first | second | third | dropped | frameDropped => exact .refl s
  | frame _ hd =>
    rcases frameDispatch_cases hd with h | rfl | rfl | rfl
    · exact apply_flagsKept (s := { clearParser s with c10 := _ }) hmode h
    all_goals exact flagsKept_iff.mpr (by simp)

theorem exec_flagsKept {i : Instr} {s t : State} (hmode : s.params.signFlagMode = .setOnly) (hi : i ≠ .reset)
    (h : exec i s = .next t) : FlagsKept s t := by
  by_cases hword : isRelayWord i = true
  · exact relayWord_flagsKept hword hmode h
  by_cases hbyte : isByte i = true
  · exact (exec_byteDoes hbyte h).flagsKept hmode
  cases i with
  | reset => exact absurd rfl hi
  | dispStrobe => exact apply_flagsKept hmode h
  | byteIn | frameB0 | frameB1 | frameB2 | frameB3 => exact absurd rfl hbyte
  | ch10SetBit | ch10Write | ch11SetBit | ch11Write | indcStrobe | trackerSetBit | keyIn | transportStatus | standby
  | keyboardStrobe | proceed | unassigned0 | unassignedF =>
    exact (exec_touches h).flagsKept fun r => by cases r <;> rfl
  | _ => exact absurd rfl hword

/-- Settles O36: the flags are written by the SIGN_UPDATE of a relay word alone, wherever the word comes from, and under
SET_ONLY that clears none. -/
theorem setOnlyFlagsAreClearedByResetAlone : Obligations.SetOnlyFlagsAreClearedByResetAlone :=
  fun _ _ _ hmode hi h => flagsKept_iff.mp (exec_flagsKept hmode hi h)

/-! ## FOLLOW -/

theorem exec_plusWord (r : Row) (sb : Bool) (up lo : BitVec 5) :
    ∃ l, ∀ s, exec (plusWord r sb up lo) s = .next (signUpdate r .plus sb (digitUpdates l s)) := by
  cases r with
  | r1 => exact ⟨[(.r1d2, up), (.r1d3, lo)], fun _ => rfl⟩
  | r2 => exact ⟨[(.r2d1, up), (.r2d2, lo)], fun _ => rfl⟩
  | r3 => exact ⟨[(.r3d2, up), (.r3d3, lo)], fun _ => rfl⟩

theorem exec_minusWord (r : Row) (sb : Bool) (up lo : BitVec 5) :
    ∃ l, ∀ s, exec (minusWord r sb up lo) s = .next (signUpdate r .minus sb (digitUpdates l s)) := by
  cases r with
  | r1 => exact ⟨[(.r1d4, up), (.r1d5, lo)], fun _ => rfl⟩
  | r2 => exact ⟨[(.r2d3, up), (.r2d4, lo)], fun _ => rfl⟩
  | r3 => exact ⟨[(.r3d4, up), (.r3d5, lo)], fun _ => rfl⟩

/-- Under FOLLOW the flag is the sign bit (C1). -/
theorem rowFlag_signUpdate_of_follow {s : State} (hmode : s.params.signFlagMode = .follow) (r : Row) (w : SignFlag)
    (sb : Bool) : rowFlag r w (signUpdate r w sb s) = sb := by
  rw [rowFlag_signUpdate, if_pos ⟨rfl, rfl⟩, hmode, newFlag]

/-- Under FOLLOW two words of a row that offer a sign bit to each of its flags leave each flag its bit. -/
theorem flags_after_two_words {s : State} (hmode : s.params.signFlagMode = .follow) {w v : SignFlag} (hne : w ≠ v)
    (r : Row) (sb sb' : Bool) (l l' : List FieldPattern) :
    let u := signUpdate r v sb' (digitUpdates l' (signUpdate r w sb (digitUpdates l s)))
    rowFlag r w u = sb ∧ rowFlag r v u = sb' := by
  refine ⟨?_, rowFlag_signUpdate_of_follow (by simpa using hmode) r v sb'⟩
  rw [rowFlag_signUpdate, if_neg fun h => hne h.2, rowFlag_digitUpdates]
  exact rowFlag_signUpdate_of_follow (by simpa using hmode) r w sb

/-- Settles O37: after the two words the flags are the two sign bits, and with not both set the net sign is theirs,
whatever it was. -/
theorem followWordsBlankTheSign : Obligations.FollowWordsBlankTheSign := by
  intro r sp sm up lo up' lo' s hmode hboth
  obtain ⟨lp, hplus⟩ := exec_plusWord r sp up lo
  obtain ⟨lm, hminus⟩ := exec_minusWord r sm up' lo'
  refine ⟨⟨_, _, hplus s, hminus _, ?_⟩, ⟨_, _, hminus s, hplus _, ?_⟩⟩
  · obtain ⟨hp, hm⟩ := flags_after_two_words hmode (w := .plus) (v := .minus) (by decide) r sp sm lp lm
    exact ⟨hp, hm, by rw [sout_signUpdate, hp, hm, netSign_of_not_both hboth]⟩
  · obtain ⟨hm, hp⟩ := flags_after_two_words hmode (w := .minus) (v := .plus) (by decide) r sm sp lm lp
    exact ⟨hp, hm, by rw [sout_signUpdate, hp, hm, netSign_of_not_both hboth]⟩

end Sys2Proof.Machine
end

section
/-! The indicator tracker (43_indicator_tracker.md R80 to R82): TRACKER_SET_BIT is TRK_SETBIT of the bit its index
names, INDC_STROBE presents every bit of `C11`; and what each sends while both roles are connected. -/

namespace Sys2Proof.Machine

open Sys2Proof.Safety

/-! ## TRACKER_SET_BIT -/

theorem decodeRecord_trackerSetBit (i : BitVec 4) (v : Bool) :
    decodeRecord (recordOf 0x7 i.toNat v.toNat) = .ok (.trackerSetBit i v) :=
  (congrArg decodeRecord (recordOf_flag 0x7 i v)).trans (Laws.DecodeEncode.trackerSetBit i v rfl)

/-- An index other than 0 names a register bit, which the instruction presents to the tracker. -/
theorem exec_trackerSetBit_of_ne_zero {i : BitVec 4} (hi : i ≠ 0) :
    ∃ k : RegBit, k.val + 1 = i.toNat ∧ ∀ v s, exec (.trackerSetBit i v) s = .next (trkSetBit k v s) := by
  obtain ⟨k, hk⟩ := Option.ne_none_iff_exists'.mp (mt regBitOf_eq_none.mp hi)
  refine ⟨k, (regBitOf_eq_some.mp hk).symm, fun v s => ?_⟩
  change Host.Outcome.next (trkSetIndexed i v s) = _
  rw [trkSetIndexed, hk]

/-! ## Commands to connected roles -/

/-- The commands a role is sent, out of a list for both roles. -/
def cmdsFor (role : Role) (cmds : List (Role × Bytes)) : List Bytes := (cmds.filter (·.1 = role)).map (·.2)

/-- With both roles connected no command is dropped (R94). -/
theorem EmitsAll.out_of_connected {cmds : List (Role × Bytes)} {s t : State} (h : EmitsAll cmds s t)
    (hconn : ∀ role, roleGet s.conn role = true) (role : Role) :
    roleGet t.out role = roleGet s.out role ++ cmdsFor role cmds := by
  obtain ⟨hout, -⟩ := h
  simpa only [hconn, and_true, cmdsFor] using hout role

/-- A changed bit sends its command, if it is mapped (R80). -/
theorem trkSetBit_out_of_changed {s : State} (hconn : ∀ role, roleGet s.conn role = true) {k : RegBit} {v : Bool}
    (hchanged : v ≠ getBit s.s11 k) (role : Role) : roleGet (trkSetBit k v s).out role =
      roleGet s.out role ++ cmdsFor role (trackerCmd s.params k v).toList := by
  obtain ⟨-, hstep⟩ := trkSetBit_step k v s
  obtain ⟨-, -, hemits⟩ := hstep hchanged
  exact EmitsAll.out_of_connected hemits hconn role

/-- The commands of a strobe that takes the stored bits from `old` to `new` (R82). -/
def strobeCmds (p : Params) (old new : ChanWord) : List (Role × Bytes) :=
  allRegBits.filterMap fun k => if getBit new k = getBit old k then none else trackerCmd p k (getBit new k)

theorem presentAll_out_of_connected {s : State} (hconn : ∀ role, roleGet s.conn role = true) (role : Role) :
    roleGet (presentAll s).out role = roleGet s.out role ++ cmdsFor role (strobeCmds s.params s.s11 s.c11) := by
  obtain ⟨-, hemits⟩ : StrobeStep s (presentAll s) := presentAll_step s
  exact EmitsAll.out_of_connected hemits hconn role

/-! ## The examples: power-on with the default map -/

theorem powerOn_params (p : Params) : (State.powerOn p).params = p := rfl

theorem powerOn_out (p : Params) (role : Role) : roleGet (State.powerOn p).out role = [] := by cases role <;> rfl

theorem getBit_powerOn_s11 (p : Params) (k : RegBit) : getBit (State.powerOn p).s11 k = false := getBit_zero k

section DefaultMap
variable {p : Params} (hmap : p.ch11Map = defaultCh11Map)
include hmap

theorem trackerCmd_compActy (v : Bool) : trackerCmd p 1 v = some (.display, ACTY p v) := by
  rw [trackerCmd, hmap]; rfl

theorem trackerCmd_oprErr (v : Bool) : trackerCmd p 6 v = some (.indicator, LAMP p .oprErr v) := by
  rw [trackerCmd, hmap]; rfl

/-- A strobe that turns bits 2 and 7 on. -/
theorem strobeCmds_on : strobeCmds p 0 0x42 = [(.display, ACTY p true), (.indicator, LAMP p .oprErr true)] := by
  change ([1, 6] : List RegBit).filterMap (trackerCmd p · true) = _
  simp [trackerCmd_compActy hmap, trackerCmd_oprErr hmap]

/-- A strobe that turns bit 2 off and leaves bit 7 on. -/
theorem strobeCmds_off : strobeCmds p 0x42 0x40 = [(.display, ACTY p false)] := by
  change ([1] : List RegBit).filterMap (trackerCmd p · false) = _
  simp [trackerCmd_compActy hmap]

variable (hconn : ∀ role, roleGet p.connAtPowerOn role = true)
include hconn

/-- TRACKER_SET_BIT 2, 1 from power-on, then TRACKER_SET_BIT 7, 1 (the example of R81). -/
theorem trkSetBit_powerOn_out (role : Role) :
    let t := trkSetBit 1 true (State.powerOn p)
    roleGet t.out role = cmdsFor role [(.display, ACTY p true)] ∧
      roleGet (trkSetBit 6 true t).out role =
        cmdsFor role [(.display, ACTY p true)] ++ cmdsFor role [(.indicator, LAMP p .oprErr true)] := by
  intro t
  have ht : roleGet t.out role = cmdsFor role [(.display, ACTY p true)] := by
    have hchanged : true ≠ getBit (State.powerOn p).s11 1 := by rw [getBit_powerOn_s11]; decide
    rw [trkSetBit_out_of_changed hconn hchanged, powerOn_params, powerOn_out, trackerCmd_compActy hmap]
    rfl
  have hchanged : true ≠ getBit t.s11 6 := by rw [trkSetBit_s11, if_neg (by decide), getBit_powerOn_s11]; decide
  refine ⟨ht, ?_⟩
  rw [trkSetBit_out_of_changed (by rwa [trkSetBit_conn]) hchanged, trkSetBit_params, powerOn_params, ht,
    trackerCmd_oprErr hmap]
  rfl

/-- CH11_WRITE 0x0042 and a strobe from power-on, then CH11_WRITE 0x0040 and a strobe (the example of R82). -/
theorem presentAll_powerOn_out (role : Role) :
    let b := presentAll { State.powerOn p with c11 := 0x42 }
    roleGet b.out role = cmdsFor role [(.display, ACTY p true), (.indicator, LAMP p .oprErr true)] ∧
      roleGet (presentAll { b with c11 := 0x40 }).out role =
        cmdsFor role [(.display, ACTY p true), (.indicator, LAMP p .oprErr true)] ++
          cmdsFor role [(.display, ACTY p false)] := by
  intro b
  have hb : roleGet b.out role = cmdsFor role [(.display, ACTY p true), (.indicator, LAMP p .oprErr true)] := by
    rw [presentAll_out_of_connected hconn, ← strobeCmds_on hmap]
    exact congrArg (· ++ _) (powerOn_out p role)
  refine ⟨hb, ?_⟩
  rw [presentAll_out_of_connected (by rwa [presentAll_conn]), presentAll_s11, presentAll_params, hb,
    ← strobeCmds_off hmap]
  rfl

end DefaultMap

/-! ## The obligations -/

/-- Settles O39: an index other than 0 is one TRK_SETBIT (`trkSetBit_step`), and a bit just stored is stored again in
silence; the example is `trkSetBit_powerOn_out`. -/
theorem trackerSetBitIsEdgeTriggered : Obligations.TrackerSetBitIsEdgeTriggered := by
  refine ⟨decodeRecord_trackerSetBit, fun _ _ => rfl, fun i v s hi => ?_, fun p hmap hconn => ?_⟩
  · obtain ⟨k, hk, hexec⟩ := exec_trackerSetBit_of_ne_zero hi
    exact ⟨k, _, hk, hexec v s, trkSetBit_step k v s⟩
  · obtain ⟨htDisplay, huDisplay⟩ := trkSetBit_powerOn_out hmap hconn .display
    obtain ⟨htIndicator, huIndicator⟩ := trkSetBit_powerOn_out hmap hconn .indicator
    exact ⟨_, _, rfl, htDisplay, htIndicator, congrArg Host.Outcome.next (trkSetIndexed_again 2 true _), rfl,
      huDisplay, huIndicator⟩

/-- Settles O40: the strobe is `presentAll_step`, and stored bits are presented in silence (`presentAll_of_eq`); the
example is `presentAll_powerOn_out`. -/
theorem indcStrobePresentsEveryBit : Obligations.IndcStrobePresentsEveryBit := by
  refine ⟨rfl, fun s => ⟨_, rfl, presentAll_step s⟩, fun s h => congrArg Host.Outcome.next (presentAll_of_eq s h),
    fun p hmap hconn => ?_⟩
  obtain ⟨hbDisplay, hdDisplay⟩ := presentAll_powerOn_out hmap hconn .display
  obtain ⟨hbIndicator, hdIndicator⟩ := presentAll_powerOn_out hmap hconn .indicator
  exact ⟨_, _, _, _, rfl, rfl, hbDisplay, hbIndicator, rfl, rfl, hdDisplay, hdIndicator⟩

end Sys2Proof.Machine
end

section
/-! A byte at every position of the parser (44_frame_codec.md R83, R84): what it fills, where it is dropped, and how it
ends a frame; and the three bytes of a frame before its last one, as a run. -/

namespace Sys2Proof.Machine

open Sys2Proof.Safety

/-! ## BYTE_IN by its marker (R44) -/

section Markers
variable {b : Byte}

theorem decodeByte_of_marker0 (h : byteMarker b = 0) :
    decodeByte b = .frameB0 (b.extractLsb' 4 2) (b.extractLsb' 0 4) := by
  rw [decodeByte, h]; rfl

theorem decodeByte_of_marker1 (h : byteMarker b = 1) :
    decodeByte b = .frameB1 (b.extractLsb' 3 3) (b.extractLsb' 0 3) := by
  rw [decodeByte, h]; rfl

theorem decodeByte_of_marker2 (h : byteMarker b = 2) : decodeByte b = .frameB2 (b.extractLsb' 0 6) := by
  rw [decodeByte, h]; rfl

theorem decodeByte_of_marker3 (h : byteMarker b = 3) : decodeByte b = .frameB3 (b.extractLsb' 0 6) := by
  rw [decodeByte, h]; rfl

end Markers

theorem exec_byteIn_of_decodeByte {b : Byte} {i : Instr} (h : decodeByte b = i) (s : State) :
    exec (.byteIn b) s = exec i s :=
  h ▸ execByteIn_eq_exec b s

/-- Settles O8: BYTE_IN is the byte it decodes to, which its marker selects; it completes as every instruction does. -/
theorem byteInRunsTheFrameByte : Obligations.ByteInRunsTheFrameByte := by
  intro b s
  obtain ⟨t, ht, -⟩ := exec_parser (.byteIn b) s
  exact ⟨fun h => exec_byteIn_of_decodeByte (decodeByte_of_marker0 h) s,
    fun h => exec_byteIn_of_decodeByte (decodeByte_of_marker1 h) s,
    fun h => exec_byteIn_of_decodeByte (decodeByte_of_marker2 h) s,
    fun h => exec_byteIn_of_decodeByte (decodeByte_of_marker3 h) s, t, ht⟩

/-! ## Positions 0 to 2 (R83) -/

section Dropped
variable {s : State}

theorem exec_frameB0_dropped (hp : s.fpos = .p1 ∨ s.fpos = .p2) (ign : BitVec 2) (chHi : BitVec 4) :
    exec (.frameB0 ign chHi) s = .next s := by
  rcases hp with hp | hp <;> simp only [exec, execFrameB0, hp]

theorem exec_frameB1_dropped (hp : s.fpos = .p0 ∨ s.fpos = .p2) (chLo dHi : BitVec 3) :
    exec (.frameB1 chLo dHi) s = .next s := by
  rcases hp with hp | hp <;> simp only [exec, execFrameB1, hp]

theorem exec_frameB2_dropped (hp : s.fpos = .p0 ∨ s.fpos = .p1) (dMid : BitVec 6) :
    exec (.frameB2 dMid) s = .next s := by
  rcases hp with hp | hp <;> simp only [exec, execFrameB2, hp]

theorem exec_frameB3_dropped (hp : s.fpos = .p0 ∨ s.fpos = .p1 ∨ s.fpos = .p2) (dLo : BitVec 6) :
    exec (.frameB3 dLo) s = .next s := by
  rcases hp with hp | hp | hp <;> simp only [exec, execFrameB3, hp]

end Dropped

/-- A field that fits above bit `k` is shifted there without loss. -/
theorem toNat_setWidth_shiftLeft {m n k : Nat} (h : m + k ≤ n) (x : BitVec m) :
    (x.setWidth n <<< k).toNat = 2 ^ k * x.toNat := by
  have hx : x.toNat * 2 ^ k < 2 ^ n := calc
    x.toNat * 2 ^ k < 2 ^ m * 2 ^ k := Nat.mul_lt_mul_of_pos_right x.isLt (Nat.two_pow_pos k)
    _ = 2 ^ (m + k) := (Nat.pow_add 2 m k).symm
    _ ≤ 2 ^ n := Nat.pow_le_pow_right Nat.two_pos h
  rw [BitVec.toNat_shiftLeft, BitVec.toNat_setWidth_of_le (by omega), Nat.shiftLeft_eq, Nat.mod_eq_of_lt hx,
    Nat.mul_comm]

/-- A wider word has the field's bits and zeros above them. -/
theorem getLsbD_setWidth_of_le {m n : Nat} (h : m ≤ n) (x : BitVec m) (j : Nat) :
    (x.setWidth n).getLsbD j = x.getLsbD j := by
  rw [← BitVec.setWidth'_eq h, BitVec.getLsbD_setWidth']

/-- R83: channel bits 2:0 of byte 1. -/
theorem getLsbD_channel_or (c : BitVec 7) (chLo : BitVec 3) (j : Nat) :
    (c ||| chLo.setWidth 7).getLsbD j = (c.getLsbD j || chLo.getLsbD j) := by
  rw [BitVec.getLsbD_or, getLsbD_setWidth_of_le (by decide)]

/-- R83: data bits 11:6 of byte 2. -/
theorem getLsbD_data_or (d : BitVec 15) (dMid : BitVec 6) (j : Nat) :
    (d ||| dMid.setWidth 15 <<< 6).getLsbD j = (d.getLsbD j || (decide (6 ≤ j) && dMid.getLsbD (j - 6))) := by
  rw [BitVec.getLsbD_or, BitVec.getLsbD_shiftLeft, getLsbD_setWidth_of_le (by decide)]
  by_cases hj : j < 15
  · have hfrom6 : decide (6 ≤ j) = !decide (j < 6) := by
      rw [← decide_not]
      exact decide_eq_decide.mpr Nat.not_lt.symm
    rw [hfrom6, decide_eq_true hj, Bool.true_and]
  · have hhigh : dMid.getLsbD (j - 6) = false := BitVec.getLsbD_of_ge _ _ (by omega)
    simp [hhigh]

/-- Settles O19: the position's own byte fills its bits (`exec_frameB0_at_p0` and the two after it), any other is
dropped. -/
theorem frameBytesAreAcceptedAtTheirPosition : Obligations.FrameBytesAreAcceptedAtTheirPosition := by
  refine ⟨fun ign chHi s => ⟨fun hp => ?_, fun hp => exec_frameB0_dropped hp ign chHi⟩,
    fun chLo dHi s => ⟨fun hp => ?_, fun hp => exec_frameB1_dropped hp chLo dHi⟩,
    fun dMid s => ⟨fun hp => ?_, fun hp => exec_frameB2_dropped hp dMid⟩,
    fun dLo s hp => exec_frameB3_dropped hp dLo⟩
  · exact ⟨_, exec_frameB0_at_p0 hp ign chHi, rfl, toNat_setWidth_shiftLeft (by decide) chHi, rfl⟩
  · exact ⟨_, exec_frameB1_at_p1 hp chLo dHi, rfl, getLsbD_channel_or s.fchan chLo,
      toNat_setWidth_shiftLeft (by decide) dHi⟩
  · exact ⟨_, exec_frameB2_at_p2 hp dMid, rfl, getLsbD_data_or s.fdata dMid⟩

/-! ## A frame's first three bytes in a run -/

/-- The record that delivers a byte from the socket (30_encoding.md R49). -/
def byteRecord (b : Byte) : Record := packOp 0x8 0 (0#8 ++ b)

theorem step_byteRecord {s : State} {b : Byte} {rest : List Record} {i : Instr} (hin : s.input = byteRecord b :: rest)
    (hb : decodeByte b = i) : step s = exec i { s with input := rest } :=
  (step_eq_exec hin (Laws.DecodeEncode.byteIn b rfl)).trans (exec_byteIn_of_decodeByte hb _)

theorem run_byteRecord {n : Nat} {s t : State} {b : Byte} {rest : List Record} {i : Instr}
    (hin : s.input = byteRecord b :: rest) (hb : decodeByte b = i) (h : exec i { s with input := rest } = .next t) :
    run (n + 1) s = run n t :=
  run_succ ((step_byteRecord hin hb).trans h)

/-- From position 0 the three bytes with markers 00, 01, 10 fill the accumulator up to data bit 6. -/
theorem run_frameHead {s : State} {b0 b1 b2 : Byte} {rest : List Record} {ign : BitVec 2} {chHi : BitVec 4}
    {chLo dHi : BitVec 3} {dMid : BitVec 6} (hp : s.fpos = .p0)
    (hin : s.input = byteRecord b0 :: byteRecord b1 :: byteRecord b2 :: rest)
    (h0 : decodeByte b0 = .frameB0 ign chHi) (h1 : decodeByte b1 = .frameB1 chLo dHi)
    (h2 : decodeByte b2 = .frameB2 dMid) (n : Nat) :
    run (n + 3) s = run n { s with
      input := rest
      fpos := .p3
      fchan := chHi.setWidth 7 <<< 3 ||| chLo.setWidth 7
      fdata := dHi.setWidth 15 <<< 12 ||| dMid.setWidth 15 <<< 6 } := by
  have hp' : { s with input := byteRecord b1 :: byteRecord b2 :: rest }.fpos = .p0 := hp
  refine Eq.trans (run_byteRecord hin h0 (exec_frameB0_at_p0 hp' ign chHi)) ?_
  refine Eq.trans (run_byteRecord rfl h1 (exec_frameB1_at_p1 rfl chLo dHi)) ?_
  exact run_byteRecord rfl h2 (exec_frameB2_at_p2 rfl dMid)

/-! ## Position 3 (R84) -/

/-- A frame byte with another marker than 11. -/
def MarkerBelow3 (i : Instr) : Prop := (∃ a b, i = .frameB0 a b) ∨ (∃ a b, i = .frameB1 a b) ∨ ∃ a, i = .frameB2 a

theorem exec_mismatched_at_p3 {s : State} (hp : s.fpos = .p3) {i : Instr} (hi : MarkerBelow3 i) :
    exec i s = frameEndMismatched s := by
  obtain ⟨a, b, rfl⟩ | ⟨a, b, rfl⟩ | ⟨a, rfl⟩ := hi
  · simp only [exec, execFrameB0, hp]
  · simp only [exec, execFrameB1, hp]
  · simp only [exec, execFrameB2, hp]

/-- Every byte at position 3 completes and leaves a clear parser. -/
theorem exec_frameByte_at_p3 {s : State} (hp : s.fpos = .p3) {i : Instr} (hi : MarkerBelow3 i ∨ ∃ a, i = .frameB3 a) :
    ∃ t, exec i s = .next t ∧ parserOf t = ⟨.p0, 0, 0⟩ := by
  obtain hi | ⟨dLo, rfl⟩ := hi
  · rw [exec_mismatched_at_p3 hp hi]
    exact frameEndMismatched_parser s
  · rw [exec_frameB3_at_p3 hp]
    exact frameDispatch_clearParser _ _ s

theorem frameEndMismatched_of_yield {s : State} (h : s.params.p3Mismatch = .yieldPair) :
    frameEndMismatched s = frameDispatch s.fchan s.fdata (clearParser s) := by
  rw [frameEndMismatched, h]

theorem frameEndMismatched_of_drop {s : State} (h : s.params.p3Mismatch = .dropFrame) :
    frameEndMismatched s = .next (clearParser s) := by
  rw [frameEndMismatched, h]

/-- R85: channel 8 writes `C10` and runs the word. -/
theorem frameDispatch_channel8 (d : BitVec 15) (s : State) :
    frameDispatch 8 d s = exec (decodeWord d) { s with c10 := d } := by
  rw [frameDispatch, if_pos rfl, apply_eq_exec]

/-! ## The example of R84: bytes 0x01, 0x45, 0xAE, and 0x3D with marker 00 -/

section MismatchExample
variable (p : Params)

/-- Power-on after the first three bytes. -/
def beforeMismatch : State := { State.powerOn p with fpos := .p3, fchan := 8, fdata := 0x5B80 }

theorem run_mismatch {t : State} (h : frameEndMismatched (beforeMismatch p) = .next t) :
    run 4 { State.powerOn p with input := [0x80000001, 0x80000045, 0x800000AE, 0x8000003D] } = .next t := by
  have hhead : run 4 { State.powerOn p with input := [0x80000001, 0x80000045, 0x800000AE, 0x8000003D] } =
      run 1 { beforeMismatch p with input := [byteRecord 0x3D] } :=
    run_frameHead (b0 := 0x01) (b1 := 0x45) (b2 := 0xAE) rfl rfl rfl rfl rfl 1
  have hlast : step { beforeMismatch p with input := [byteRecord 0x3D] } = frameEndMismatched (beforeMismatch p) :=
    (step_byteRecord rfl rfl).trans (exec_mismatched_at_p3 rfl (.inl ⟨_, _, rfl⟩))
  exact hhead.trans (run_succ (hlast.trans h))

/-- The word 0x5B80 shows MAJOR MODE 6 and blank. -/
theorem exec_mismatchWord : exec (decodeWord 0x5B80) { State.powerOn p with c10 := 0x5B80 } =
    .next (digitUpdates [(.md1, 28), (.md2, 0)] { State.powerOn p with c10 := 0x5B80 }) := rfl

variable {p}

theorem mismatchWord_display (hconn : roleGet p.connAtPowerOn .display = true) :
    (digitUpdates [(.md1, 28), (.md2, 0)] { State.powerOn p with c10 := 0x5B80 }).out.display =
      [DIGIT p .md1 (.num 6), DIGIT p .md2 .blank] := by
  have hconn' : roleGet (State.powerOn p).conn .display = true := hconn
  rw [digitUpdates_eq, hconn']
  rfl

end MismatchExample

/-- Settles O20: marker 11 dispatches the merged pair, the others are `frameEndMismatched`, and every byte leaves a
clear parser; the example (`run_mismatch`) runs the word 0x5B80 or, under DROP_FRAME, ends at power-on. -/
theorem thePositionThreeByteEndsTheFrame : Obligations.ThePositionThreeByteEndsTheFrame := by
  refine ⟨fun s dLo hp => ?_, fun s i hp hi => ?_, fun s i hp hi => ?_, fun p hconn => ?_⟩
  · rw [exec_frameB3_at_p3 hp]
    exact frameDispatch_dispatched _ _ (clearParser s)
  · rw [exec_mismatched_at_p3 hp hi]
    exact frameEndMismatched_spec s
  · obtain ⟨t, ht, hparser⟩ := exec_frameByte_at_p3 hp (i := i) (by simpa only [MarkerBelow3, or_assoc] using hi)
    obtain ⟨hpos, hchan, hdata⟩ := FrameParser.ext_iff.mp hparser
    exact ⟨t, ht, hpos, hchan, hdata⟩
  · cases hmode : p.p3Mismatch with
    | yieldPair =>
      have hend := (frameEndMismatched_of_yield (s := beforeMismatch p) hmode).trans
        ((frameDispatch_channel8 0x5B80 (State.powerOn p)).trans (exec_mismatchWord p))
      exact ⟨_, run_mismatch p hend, fun _ => ⟨by rw [digitUpdates_eq], mismatchWord_display hconn⟩, nofun⟩
    | dropFrame => exact ⟨_, run_mismatch p (frameEndMismatched_of_drop hmode), nofun, fun _ => rfl⟩

end Sys2Proof.Machine
end

section
/-! The key frame (44_frame_codec.md R87, 30_encoding.md R45): its bytes are the frame bytes of channel and data, and
their values in arithmetic. -/

namespace Sys2Proof.Machine

open Sys2Proof.Safety

/-- R45: each byte of the key frame is its marker above its fields; the two bits byte 0 ignores are sent as 0. -/
theorem keyFrame_eq (ch : BitVec 7) (d : BitVec 15) : keyFrame ch d =
    [0#2 ++ 0#2 ++ ch.extractLsb' 3 4, 1#2 ++ ch.extractLsb' 0 3 ++ d.extractLsb' 12 3, 2#2 ++ d.extractLsb' 6 6,
      3#2 ++ d.extractLsb' 0 6] := by
  have h0 : ∀ x : BitVec 4, 0x00#8 ||| x.setWidth 8 = 0#2 ++ 0#2 ++ x := by decide
  have h1 : ∀ x y : BitVec 3, 0x40#8 ||| (x.setWidth 8 <<< 3) ||| y.setWidth 8 = 1#2 ++ x ++ y := by decide
  have h2 : ∀ x : BitVec 6, 0x80#8 ||| x.setWidth 8 = 2#2 ++ x := by decide
  have h3 : ∀ x : BitVec 6, 0xC0#8 ||| x.setWidth 8 = 3#2 ++ x := by decide
  rw [keyFrame, h0, h1, h2, h3]

/-- A key code with bit 15 clear is the frame's data (20_memory.md R27). -/
theorem keyCode_toNat {k : BitVec 16} (hk : k.getLsbD 15 = false) :
    (k.setWidth 15).toNat = k.toNat ∧ k.toNat < 2 ^ 15 := by
  have hlt : k.toNat < 2 ^ 15 := BitVec.toNat_lt_of_msb_false ((BitVec.msb_eq_getLsbD_last k).trans hk)
  exact ⟨(BitVec.toNat_setWidth 15 k).trans (Nat.mod_eq_of_lt hlt), hlt⟩

/-- R45 in arithmetic, for a key code: under the markers, channel bits 6:3; channel bits 2:0 and data bits 14:12; data
bits 11:6; data bits 5:0. -/
theorem keyFrame_values {k : BitVec 16} (hk : k.getLsbD 15 = false) (ch : BitVec 7) : ∃ b0 b1 b2 b3 : Byte,
    keyFrame ch (k.setWidth 15) = [b0, b1, b2, b3] ∧ b0.toNat = ch.toNat / 8 ∧
      b1.toNat = 0x40 + ch.toNat % 8 * 8 + k.toNat / 4096 ∧ b2.toNat = 0x80 + k.toNat / 64 % 64 ∧
      b3.toNat = 0xC0 + k.toNat % 64 := by
  obtain ⟨hdata, hlt⟩ := keyCode_toNat hk
  have hch := ch.isLt
  -- Each byte is an append, so its value is the sum of its marker and fields, each at its place.
  refine ⟨_, _, _, _, keyFrame_eq ch _, ?_, ?_, ?_, ?_⟩ <;>
    simp only [append_toNat, BitVec.extractLsb'_toNat, Nat.shiftRight_eq_div_pow, BitVec.toNat_ofNat, hdata] <;> omega

/-! ## KEY_IN -/

section KeyIn
variable {k : BitVec 16}

theorem keyCodeOk_iff : keyCodeOk k = true ↔ k.getLsbD 15 = false := by
  rw [keyCodeOk, Bool.not_eq_true']

theorem decodeRecord_keyIn (hk : k.getLsbD 15 = false) : decodeRecord (recordOf 0x9 0 k.toNat) = .ok (.keyIn k) :=
  (congrArg decodeRecord (recordOf_eq_packOp 0x9 0 k)).trans (Laws.DecodeEncode.keyIn k (keyCodeOk_iff.mpr hk))

theorem exec_keyIn (hk : k.getLsbD 15 = false) (s : State) :
    exec (.keyIn k) s = .next (send (keyFrame s.params.keyChannel (k.setWidth 15)) s) :=
  if_pos (keyCodeOk_iff.mpr hk)

theorem exec_keyIn_tooWide (hk : k.getLsbD 15 = true) (s : State) :
    exec (.keyIn k) s = .next (refuse .malformedRecord s) :=
  if_neg (by rw [keyCodeOk_iff, hk]; exact Bool.noConfusion)

end KeyIn

/-- Settles O23: a 15-bit code sends its key frame, whose bytes are `keyFrame_values`; a wider one is refused. -/
theorem keyInSendsTheKeyFrame : Obligations.KeyInSendsTheKeyFrame := by
  refine ⟨fun k hk => decodeRecord_keyIn hk, fun k s hk => ?_, fun k s hk => exec_keyIn_tooWide hk s, fun s hs => ?_⟩
  · obtain ⟨b0, b1, b2, b3, hframe, hvalues⟩ := keyFrame_values hk s.params.keyChannel
    exact ⟨b0, b1, b2, b3, by rw [exec_keyIn hk, hframe]; rfl, hvalues⟩
  · have hframe : keyFrame 13 ((0x11 : BitVec 16).setWidth 15) = [0x01, 0x68, 0x80, 0xD1] := rfl
    rw [exec_keyIn rfl, hs, hframe]
    rfl

end Sys2Proof.Machine
end

section
/-! A completed frame's pair at the dispatcher (44_frame_codec.md R85, R86): the BYTE_IN of the last byte dispatches it,
and the lamps of a channel-115 frame are those of relay word 12. -/

namespace Sys2Proof.Machine

open Sys2Proof.Safety

/-- The BYTE_IN that completes a frame dispatches the pair in that one operation. -/
theorem exec_byteIn_completes {b : Byte} {s : State} (hp : s.fpos = .p3) (hb : byteMarker b = 3) :
    exec (.byteIn b) s = frameDispatch s.fchan (s.fdata ||| (b.extractLsb' 0 6).setWidth 15) (clearParser s) :=
  (exec_byteIn_of_decodeByte (decodeByte_of_marker3 hb) s).trans (exec_frameB3_at_p3 hp _)

/-- R86: a channel-115 frame gives the lamps its data bits. -/
theorem frameDispatch_channel115 (d : BitVec 15) (s : State) :
    frameDispatch 115 d s = .next (lamp12Update (lampSource d) s) := by
  rw [frameDispatch, if_neg (by decide), if_neg (by decide), if_pos rfl]

/-- R85: every channel outside {8, 9, 115} is dropped. -/
theorem frameDispatch_otherChannel {ch : BitVec 7} (h8 : ch ≠ 8) (h9 : ch ≠ 9) (h115 : ch ≠ 115) (d : BitVec 15)
    (s : State) : frameDispatch ch d s = .next s := by
  rw [frameDispatch, if_neg h8, if_neg h9, if_neg h115]

/-! ## The example of R86: the frame (115, 0x0104), then DISPLAY_WORD 0x6104 -/

section LampExample
variable (p : Params)

/-- Power-on after the frame. -/
def afterLampFrame : State := lamp12Update (lampSource 0x0104) (State.powerOn p)

theorem run_lampFrame :
    run 4 { State.powerOn p with input := [0x8000000E, 0x80000058, 0x80000084, 0x800000C4] } =
      .next (afterLampFrame p) := by
  have hhead : run 4 { State.powerOn p with input := [0x8000000E, 0x80000058, 0x80000084, 0x800000C4] } =
      run 1 { State.powerOn p with input := [byteRecord 0xC4], fpos := .p3, fchan := 115, fdata := 0x0100 } :=
    run_frameHead (b0 := 0x0E) (b1 := 0x58) (b2 := 0x84) rfl rfl rfl rfl rfl 1
  have hlast : exec (.frameB3 4) { State.powerOn p with fpos := .p3, fchan := 115, fdata := 0x0100 } =
      .next (afterLampFrame p) := by
    have hdata : (0x0100 : BitVec 15) ||| (4 : BitVec 6).setWidth 15 = 0x0104 := rfl
    rw [exec_frameB3_at_p3 rfl, hdata]
    exact frameDispatch_channel115 0x0104 (State.powerOn p)
  exact hhead.trans (run_byteRecord rfl rfl hlast)

/-- The word 0x6104 has the frame's six lamp bits, so after the frame it is silent: both paths write `L12`. -/
theorem run_lampWord : run 2 { afterLampFrame p with input := [0x20006104, 0x30000000] } =
    .next { afterLampFrame p with c10 := 0x6104 } := by
  have hin : (afterLampFrame p).input = [] := lamp12Update_input _ _
  have hlamps : ∀ b, lampGet (afterLampFrame p).l12 b = patternLamps 8 4 b := by
    obtain ⟨-, hl12, -⟩ := lamp12Update_step (lampSource 0x0104) (State.powerOn p)
    exact fun b => (hl12 b).trans (by cases b <;> rfl)
  have hword : exec (.rw12 false 8 4) { afterLampFrame p with c10 := 0x6104 } =
      .next { afterLampFrame p with c10 := 0x6104 } :=
    (exec_rw12 false 8 4 _).trans (congrArg Host.Outcome.next (lamp12Update_of_eq _ _ hlamps))
  refine run_displayWord (w := 0x6104) rfl ?_
  rw [← hin]
  exact hword

variable {p}

theorem lampFrame_indicator (hconn : roleGet p.connAtPowerOn .indicator = true)
    (hmap : p.lamp12Map = defaultLamp12Map) :
    (afterLampFrame p).out.indicator = [LAMP p .vel true, LAMP p .prog true] := by
  have hoff : ∀ b, lampGet (State.powerOn p).l12 b = false := fun b => by cases b <;> rfl
  rw [afterLampFrame, lamp12Update_indicator_of_off (s := State.powerOn p) hconn hoff, powerOn_params, hmap]
  rfl

end LampExample

/-- Settles O49: FRAME_DISPATCH is `frameDispatch_dispatched`, which drops every channel outside the set, KEY_CHANNEL
there among them; the example is `run_lampFrame` and `run_lampWord`. -/
theorem describedChannelsAreActedOnAndOthersDropped : Obligations.DescribedChannelsAreActedOnAndOthersDropped := by
  refine ⟨fun b s ⟨h8, h9, h115⟩ hp hb => ?_, fun p _ hconn hmap => ?_⟩
  · rw [exec_byteIn_completes hp hb]
    refine ⟨frameDispatch_dispatched _ _ (clearParser s), fun hkey => ?_⟩
    rw [← hkey] at h8 h9 h115
    exact frameDispatch_otherChannel h8 h9 h115 _ _
  · exact ⟨_, _, run_lampFrame p, lampFrame_indicator hconn hmap, lamp12Update_c10 _ _, run_lampWord p, rfl⟩

end Sys2Proof.Machine
end

section
/-! The command encoder (45_command_encoder.md R88 to R95): the bytes of its commands, what tells them apart, and the
connection flag that decides whether one goes out. -/

namespace Sys2Proof.Machine

open Sys2Proof.Safety

/-! ## Command bytes -/

theorem valueCommand_eq (p : Params) (n : CmdName) (v : Byte) : valueCommand p n v = valueBytes p n v := by
  simp [valueCommand, valueBytes]

/-- R46 with the space and the value byte written together. -/
theorem valueCommand_eq_pair (p : Params) (n : CmdName) (v : Byte) :
    valueCommand p n v = codeOf p.cmdCodes n ++ [0x20, v] ++ p.cmdTerminator := by
  simp [valueCommand]

theorem boolByte_eq_ite (v : Bool) : boolByte v = if v then 0x31 else 0x30 := by cases v <;> rfl

theorem digitByte_num_toNat (n : Fin 10) : (digitByte (.num n)).toNat = 0x30 + n.val := by revert n; decide

/-- A command number is not empty (R88 (b)). -/
theorem codeOf_ne_nil {p : Params} (hp : paramsOk p = true) {n : CmdName} (hn : n ∈ cmdNames p) :
    codeOf p.cmdCodes n ≠ [] := by
  simp only [paramsOk, codesOk, Bool.and_eq_true, List.all_eq_true] at hp
  obtain ⟨-, ⟨⟨hshape, -⟩, -⟩, -⟩ := hp
  have hn := hshape n hn
  simp only [codeShapeOk, decide_eq_true_eq] at hn
  exact hn.1

/-- Settles O44: equal value commands have equal names and values (`valueBytes_inj`), and a reset is shorter than any
value command (`resetCmd_ne_valueBytes`). -/
theorem commandsOfARoleAreDistinguishable : Obligations.CommandsOfARoleAreDistinguishable := by
  intro p hp a ha
  refine ⟨codeOf_ne_nil hp ha, fun b hb hrole v w h => ?_, fun v h => ?_⟩
  · rw [valueCommand_eq, valueCommand_eq] at h
    exact valueBytes_inj hp ha hb hrole h
  · rw [valueCommand_eq, encodeReset_eq] at h
    exact resetCmd_ne_valueBytes hp _ a v h.symm

/-- Settles O43: each encoder is the value command of its name (`valueCommand_eq_pair`), and the value bytes are those
of R47; the examples are computed from the test codes. -/
theorem commandsHaveTheirFormat : Obligations.CommandsHaveTheirFormat := by
  refine ⟨fun p f => valueCommand_eq_pair p _ _, fun p f n => ⟨_, digitByte_num_toNat n, valueCommand_eq_pair p _ _⟩,
    fun p r => ⟨valueCommand_eq_pair p _ _, valueCommand_eq_pair p _ _, valueCommand_eq_pair p _ _⟩,
    fun p n v => ?_, fun p v => ?_, fun _ _ => rfl, ?_⟩
  · rw [← boolByte_eq_ite]
    exact valueCommand_eq_pair p _ _
  · rw [← boolByte_eq_ite]
    exact valueCommand_eq_pair p _ _
  · rintro _ rfl
    exact ⟨rfl, rfl, rfl, rfl, rfl, rfl⟩

/-! ## The connection flag -/

section TransportStatus
variable {role : BitVec 4} (up : Bool)

theorem decodeRecord_transportStatus (hrole : role.toNat ≤ 1) :
    decodeRecord (recordOf 0xB role.toNat up.toNat) = .ok (.transportStatus role up) :=
  (congrArg decodeRecord (recordOf_flag 0xB role up)).trans
    (Laws.DecodeEncode.transportStatus role up (decide_eq_true hrole))

theorem roleOf_eq_none (hrole : 2 ≤ role.toNat) : roleOf role = none := by
  revert role; decide

theorem exec_transportStatus_tooHigh (hrole : 2 ≤ role.toNat) (s : State) :
    exec (.transportStatus role up) s = .next (refuse .malformedRecord s) := by
  change execTransportStatus role up s = _
  rw [execTransportStatus, roleOf_eq_none hrole]
  rfl

end TransportStatus

/-- A disconnected role is sent nothing (R94). -/
theorem EmitsAll.out_of_disconnected {cmds : List (Role × Bytes)} {s t : State} (h : EmitsAll cmds s t) {role : Role}
    (hconn : roleGet s.conn role = false) : roleGet t.out role = roleGet s.out role := by
  obtain ⟨hout, -⟩ := h
  have hnone : cmds.filter (fun c => c.1 = role ∧ roleGet s.conn c.1 = true) = [] :=
    List.filter_eq_nil_iff.mpr fun c _ => by simp +contextual [hconn]
  rw [hout, hnone, List.map_nil, List.append_nil]

/-- Each lamp that comes on while the indicator is disconnected is reported (R65, R94). -/
theorem lamp12Update_cond_of_off {s : State} (hconn : roleGet s.conn .indicator = false)
    (hoff : ∀ b, lampGet s.l12 b = false) (bit : LampBit → Bool) : (lamp12Update bit s).cond =
      s.cond ++ (lampBits.filter bit).map fun _ => .transportUnavailable .indicator := by
  obtain ⟨-, -, -, hcond⟩ := lamp12Update_step bit s
  refine hcond.trans (congrArg (s.cond ++ ·) ?_)
  change ((lampBits.filterMap _).filter _).map _ = _
  generalize lampBits = l
  induction l with
  | nil => rfl
  | cons b l ih => cases hb : bit b <;> simpa [hb, hoff, hconn] using ih

/-! ## The example of R95: INDICATOR becomes unavailable, then DISPLAY_WORD 0x6104 turns on two lamps -/

/-- Power-on with the indicator disconnected and the word in `C10`. -/
def beforeDroppedLamps (p : Params) : State :=
  { State.powerOn p with conn := { p.connAtPowerOn with indicator := false }, c10 := 0x6104 }

theorem run_droppedLamps (p : Params) :
    run 3 { State.powerOn p with input := [0xB0010000, 0x20006104, 0x30000000] } =
      .next (lamp12Update (patternLamps 8 4) (beforeDroppedLamps p)) := by
  have hstatus : step { State.powerOn p with input := [0xB0010000, 0x20006104, 0x30000000] } =
      .next { State.powerOn p with
        conn := { p.connAtPowerOn with indicator := false }, input := [0x20006104, 0x30000000] } :=
    Eq.trans (step_eq_exec (i := .transportStatus 1 false) rfl rfl) rfl
  exact (run_succ hstatus).trans (run_displayWord (w := 0x6104) rfl (exec_rw12 false 8 4 _))

/-! ## The obligation -/

/-- Settles O45: the flag is set and nothing else, a role above 1 is refused, and EMIT obeys the flag (`emit_emits`);
the example is `run_droppedLamps`. -/
theorem transportStatusSetsTheFlag : Obligations.TransportStatusSetsTheFlag := by
  refine ⟨fun role up hrole => decodeRecord_transportStatus up hrole,
    fun up s => ⟨_, _, rfl, rfl, rfl, rfl, fun r => roleGet_roleSet s.conn .display r up,
      fun r => roleGet_roleSet s.conn .indicator r up⟩,
    fun role up s hrole => exec_transportStatus_tooHigh up hrole s, emit_emits,
    fun p => ⟨_, run_droppedLamps p, ?_⟩⟩
  have hconn : roleGet (beforeDroppedLamps p).conn .indicator = false := rfl
  have hoff : ∀ b, lampGet (beforeDroppedLamps p).l12 b = false := fun b => by cases b <;> rfl
  obtain ⟨-, hl12, hemits⟩ := lamp12Update_step (patternLamps 8 4) (beforeDroppedLamps p)
  exact ⟨lamp12Update_cond_of_off hconn hoff _, EmitsAll.out_of_disconnected hemits hconn, hl12 .b3, hl12 .b9⟩

end Sys2Proof.Machine
end

section
/-! The connection flags steer only whether a command goes out or is reported (45_command_encoder.md R94): from states
that differ in the flags, OUT and COND alone, every operation leads to such states again. -/

namespace Sys2Proof.Machine

open Sys2Proof.Safety

/-- `t` is `s` but for the connection flags, OUT and COND. -/
def Relinked (s t : State) : Prop := ∃ c o d, t = { s with conn := c, out := o, cond := d }

/-- Both answers are next states, and these are the same but for the connection flags, OUT and COND. -/
def AnswersRelinked (x y : Result) : Prop := ∃ t u, x = .next t ∧ y = .next u ∧ Relinked t u

theorem Relinked.next {t u : State} (h : Relinked t u) : AnswersRelinked (.next t) (.next u) := ⟨t, u, rfl, rfl, h⟩

theorem Relinked.symm {s t : State} : Relinked s t → Relinked t s
  | ⟨_, _, _, e⟩ => ⟨s.conn, s.out, s.cond, e ▸ rfl⟩

theorem Relinked.trans {s t u : State} : Relinked s t → Relinked t u → Relinked s u
  | ⟨_, _, _, et⟩, ⟨c, o, d, eu⟩ => ⟨c, o, d, eu.trans (et ▸ rfl)⟩

/-- It suffices that `f` answers such states when exactly the flags, OUT and COND of its state are replaced. -/
theorem Relinked.map {f : State → State} {s t : State} (h : Relinked s t)
    (hf : ∀ s c o d, Relinked (f s) (f { s with conn := c, out := o, cond := d })) : Relinked (f s) (f t) := by
  obtain ⟨c, o, d, rfl⟩ := h
  exact hf s c o d

/-! ## The shared operations -/

/-- A command, whether it goes out or is dropped, changes nothing else (R94). -/
theorem emit_relinked (role : Role) (cmd : Bytes) (s : State) : Relinked s (emit role cmd s) := by
  unfold emit
  split
  · exact ⟨s.conn, _, s.cond, rfl⟩
  · exact ⟨s.conn, s.out, _, rfl⟩

theorem trackerCommand_relinked (e : Option Ch11Entry) (v : Bool) (s : State) :
    Relinked s (trackerCommand e v s) := by
  unfold trackerCommand
  split
  · exact ⟨_, _, _, rfl⟩
  · exact emit_relinked _ _ s
  · exact emit_relinked _ _ s

/-- TRK_SETBIT stores the bit and may command it (R80). -/
theorem trkSetBit_relinked (k : RegBit) (v : Bool) (s : State) :
    Relinked { s with s11 := setBit s.s11 k v } (trkSetBit k v s) := by
  unfold trkSetBit
  split
  case isTrue h => rw [h, setBit_getBit_self]; exact ⟨_, _, _, rfl⟩
  case isFalse => exact trackerCommand_relinked _ v _

section
variable {s t : State} (h : Relinked s t)
include h

theorem Relinked.parserOf_eq : parserOf t = parserOf s := by
  obtain ⟨c, o, d, rfl⟩ := h
  rfl

theorem Relinked.emit (role : Role) (cmd cmd' : Bytes) : Relinked (emit role cmd s) (emit role cmd' t) :=
  (emit_relinked role cmd s).symm.trans (h.trans (emit_relinked role cmd' t))

theorem Relinked.report (c : Condition) : Relinked (report c s) (report c t) :=
  h.map fun _ _ _ _ => ⟨_, _, _, rfl⟩

theorem Relinked.refuse (r : RefusalReason) : Relinked (refuse r s) (refuse r t) :=
  h.map fun _ _ _ _ => ⟨_, _, _, rfl⟩

theorem Relinked.clearParser : Relinked (clearParser s) (clearParser t) :=
  h.map fun _ _ _ _ => ⟨_, _, _, rfl⟩

theorem Relinked.clearDisplay : Relinked (clearDisplay s) (clearDisplay t) :=
  h.map fun _ _ _ _ => ⟨_, _, _, rfl⟩

theorem Relinked.clearTracker : Relinked (clearTracker s) (clearTracker t) :=
  h.map fun _ _ _ _ => ⟨_, _, _, rfl⟩

theorem Relinked.digitUpdates (l : List FieldPattern) : Relinked (digitUpdates l s) (digitUpdates l t) := by
  obtain ⟨c, o, d, rfl⟩ := h
  rw [digitUpdates_eq, digitUpdates_eq]
  exact ⟨_, _, _, rfl⟩

theorem Relinked.commandSign (r : Row) (n : Sign) : Relinked (commandSign r n s) (commandSign r n t) := by
  obtain ⟨c, o, d, rfl⟩ := h
  rw [commandSign_eq, commandSign_eq]
  exact ⟨_, _, _, rfl⟩

theorem Relinked.offerSign (r : Row) (w : SignFlag) (sb : Bool) :
    Relinked (offerSign r w sb s) (offerSign r w sb t) := by
  obtain ⟨c, o, d, rfl⟩ := h
  cases w <;> exact ⟨_, _, _, rfl⟩

theorem Relinked.rowNet_eq (r : Row) (w : SignFlag) (sb : Bool) : rowNet r w sb t = rowNet r w sb s := by
  obtain ⟨c, o, d, rfl⟩ := h
  rfl

theorem Relinked.signUpdate (r : Row) (w : SignFlag) (sb : Bool) :
    Relinked (signUpdate r w sb s) (signUpdate r w sb t) := by
  have hoffer := h.offerSign r w sb
  rw [Machine.signUpdate, Machine.signUpdate, hoffer.rowNet_eq]
  exact hoffer.commandSign r _

theorem Relinked.lamp12Update (bit : LampBit → Bool) : Relinked (lamp12Update bit s) (lamp12Update bit t) := by
  obtain ⟨hs, hsl, -⟩ := lamp12Update_step bit s
  obtain ⟨ht, htl, -⟩ := lamp12Update_step bit t
  have hl12 : (Machine.lamp12Update bit t).l12 = (Machine.lamp12Update bit s).l12 :=
    perLamp_ext fun b => (htl b).trans (hsl b).symm
  obtain ⟨c, o, d, rfl⟩ := h
  rw [ht, hl12, hs]
  exact ⟨_, _, _, rfl⟩

theorem Relinked.trkSetIndexed (i : BitVec 4) (v : Bool) : Relinked (trkSetIndexed i v s) (trkSetIndexed i v t) := by
  unfold Machine.trkSetIndexed
  split
  case h_1 => exact h
  case h_2 k _ =>
    have hstored : Relinked { s with s11 := setBit s.s11 k v } { t with s11 := setBit t.s11 k v } :=
      h.map (f := fun s => { s with s11 := setBit s.s11 k v }) fun _ _ _ _ => ⟨_, _, _, rfl⟩
    exact (trkSetBit_relinked k v s).symm.trans (hstored.trans (trkSetBit_relinked k v t))

theorem Relinked.presentAll : Relinked (presentAll s) (presentAll t) := by
  obtain ⟨hs, -⟩ : StrobeStep s (Machine.presentAll s) := presentAll_step s
  obtain ⟨ht, -⟩ : StrobeStep t (Machine.presentAll t) := presentAll_step t
  obtain ⟨c, o, d, rfl⟩ := h
  rw [hs, ht]
  exact ⟨_, _, _, rfl⟩

/-! ## Instructions -/

theorem Relinked.exec_relayWord {i : Instr} (hi : isRelayWord i = true) : AnswersRelinked (exec i s) (exec i t) := by
  by_cases hf : fieldsOf i = []
  · obtain hexec | ⟨-, bit, hexec⟩ | ⟨c, hexec⟩ := exec_digitlessWord hi hf <;> rw [hexec, hexec]
    · exact h.next
    · exact (h.lamp12Update bit).next
    · exact (h.report c).next
  · obtain ⟨l, -, ⟨-, hexec⟩ | ⟨r, w, sb, -, hexec⟩⟩ := exec_digitWord hf <;> rw [hexec, hexec]
    · exact (h.digitUpdates l).next
    · exact ((h.digitUpdates l).signUpdate r w sb).next

theorem Relinked.apply : AnswersRelinked (apply s) (apply t) := by
  have hword := h.exec_relayWord (i := decodeWord s.c10) (relayInstr_isRelayWord _ _ _ _)
  obtain ⟨c, o, d, rfl⟩ := h
  rw [apply_eq_exec, apply_eq_exec]
  exact hword

theorem Relinked.frameDispatch (ch : BitVec 7) (w : BitVec 15) :
    AnswersRelinked (frameDispatch ch w s) (frameDispatch ch w t) := by
  have hc10 : Relinked { s with c10 := w } { t with c10 := w } :=
    h.map (f := fun s => { s with c10 := w }) fun _ _ _ _ => ⟨_, _, _, rfl⟩
  have hc11 : Relinked { s with c11 := w } { t with c11 := w } :=
    h.map (f := fun s => { s with c11 := w }) fun _ _ _ _ => ⟨_, _, _, rfl⟩
  unfold Machine.frameDispatch
  split_ifs
  · exact hc10.apply
  · exact hc11.presentAll.next
  · exact (h.lamp12Update _).next
  · exact h.next

theorem Relinked.frameEndMatched (dLo : BitVec 6) :
    AnswersRelinked (frameEndMatched dLo s) (frameEndMatched dLo t) := by
  have hpair := h.clearParser.frameDispatch s.fchan (s.fdata ||| dLo.setWidth 15)
  obtain ⟨c, o, d, rfl⟩ := h
  exact hpair

theorem Relinked.frameEndMismatched : AnswersRelinked (frameEndMismatched s) (frameEndMismatched t) := by
  have hpair := h.clearParser.frameDispatch s.fchan s.fdata
  have hclear := h.clearParser.next
  obtain ⟨c, o, d, rfl⟩ := h
  cases hmode : s.params.p3Mismatch <;> simp only [Machine.frameEndMismatched, hmode]
  case yieldPair => exact hpair
  case dropFrame => exact hclear

end

/-! ## Frame bytes -/

/-- Before position 3 a frame byte writes the parser alone (R83). -/
theorem exec_byte_before_p3 {i : Instr} (hi : isByte i = true) {s : State} (hp : s.fpos ≠ .p3) :
    exec i s = .next { s with
      fpos := ((parserOf s).after i).pos
      fchan := ((parserOf s).after i).chan
      fdata := ((parserOf s).after i).data } := by
  obtain ⟨t, ht, hparser⟩ := exec_parser i s
  rw [ht, ← hparser]
  cases exec_byteDoes hi ht with
  | first | second | third | dropped => rfl
  | frameDropped h | frame h => exact absurd h hp

theorem decodeByte_markerBelow3_or_frameB3 (b : Byte) :
    MarkerBelow3 (decodeByte b) ∨ ∃ dLo, decodeByte b = .frameB3 dLo := by
  rcases marker_cases (byteMarker b) with h | h | h | h
  · exact .inl (.inl ⟨_, _, decodeByte_of_marker0 h⟩)
  · exact .inl (.inr (.inl ⟨_, _, decodeByte_of_marker1 h⟩))
  · exact .inl (.inr (.inr ⟨_, decodeByte_of_marker2 h⟩))
  · exact .inr ⟨_, decodeByte_of_marker3 h⟩

/-- A byte runs as one with a marker, BYTE_IN as the byte it decodes to (R83). -/
theorem exec_byte_eq_frameByte {i : Instr} (hi : isByte i = true) :
    ∃ j, (MarkerBelow3 j ∨ ∃ dLo, j = .frameB3 dLo) ∧ ∀ s, exec i s = exec j s := by
  cases i with
  | byteIn b => exact ⟨decodeByte b, decodeByte_markerBelow3_or_frameB3 b, execByteIn_eq_exec b⟩
  | frameB0 ign chHi => exact ⟨_, .inl (.inl ⟨ign, chHi, rfl⟩), fun _ => rfl⟩
  | frameB1 chLo dHi => exact ⟨_, .inl (.inr (.inl ⟨chLo, dHi, rfl⟩)), fun _ => rfl⟩
  | frameB2 dMid => exact ⟨_, .inl (.inr (.inr ⟨dMid, rfl⟩)), fun _ => rfl⟩
  | frameB3 dLo => exact ⟨_, .inr ⟨dLo, rfl⟩, fun _ => rfl⟩
  | _ => cases hi

/-- At position 3 a byte ends the frame (R84), and the byte alone says whether its marker matches. -/
theorem exec_byte_at_p3 {i : Instr} (hi : isByte i = true) :
    (∀ s, s.fpos = .p3 → exec i s = frameEndMismatched s) ∨
      ∃ dLo, ∀ s, s.fpos = .p3 → exec i s = frameEndMatched dLo s := by
  obtain ⟨j, hj | ⟨dLo, rfl⟩, hexec⟩ := exec_byte_eq_frameByte hi
  · exact .inl fun s hp => (hexec s).trans (exec_mismatched_at_p3 hp hj)
  · exact .inr ⟨dLo, fun s hp => (hexec s).trans (exec_frameB3_at_p3 hp dLo)⟩

theorem Relinked.exec_byte {s t : State} (h : Relinked s t) {i : Instr} (hi : isByte i = true) :
    AnswersRelinked (exec i s) (exec i t) := by
  have hparser := h.parserOf_eq
  have hpos : t.fpos = s.fpos := congrArg FrameParser.pos hparser
  by_cases hp : s.fpos = .p3
  · obtain hexec | ⟨dLo, hexec⟩ := exec_byte_at_p3 hi <;> rw [hexec s hp, hexec t (hpos.trans hp)]
    · exact h.frameEndMismatched
    · exact h.frameEndMatched dLo
  · rw [exec_byte_before_p3 hi hp, exec_byte_before_p3 hi (hpos ▸ hp), hparser]
    obtain ⟨c, o, d, rfl⟩ := h
    exact Relinked.next ⟨_, _, _, rfl⟩

/-! ## Every instruction -/

theorem Relinked.execKeyIn {s t : State} (h : Relinked s t) (k : BitVec 16) :
    AnswersRelinked (execKeyIn k s) (execKeyIn k t) := by
  have hrefuse := (h.refuse .malformedRecord).next
  obtain ⟨c, o, d, rfl⟩ := h
  unfold Machine.execKeyIn
  split
  · exact Relinked.next ⟨_, _, _, rfl⟩
  · exact hrefuse

theorem Relinked.execTransportStatus {s t : State} (h : Relinked s t) (role : BitVec 4) (up : Bool) :
    AnswersRelinked (execTransportStatus role up s) (execTransportStatus role up t) := by
  have hrefuse := (h.refuse .malformedRecord).next
  obtain ⟨c, o, d, rfl⟩ := h
  unfold Machine.execTransportStatus
  split
  · exact Relinked.next ⟨_, _, _, rfl⟩
  · exact hrefuse

theorem Relinked.exec_reset {s t : State} (h : Relinked s t) : AnswersRelinked (exec .reset s) (exec .reset t) := by
  rw [exec_reset_eq, exec_reset_eq]
  exact ((h.clearDisplay.emit .display _ _).clearTracker.emit .indicator _ _).next

theorem Relinked.exec {s t : State} (h : Relinked s t) (i : Instr) : AnswersRelinked (exec i s) (exec i t) := by
  by_cases hw : isRelayWord i = true
  · exact h.exec_relayWord hw
  cases i with
  | byteIn | frameB0 | frameB1 | frameB2 | frameB3 => exact h.exec_byte rfl
  | dispStrobe => exact h.apply
  | keyIn k => exact h.execKeyIn k
  | transportStatus role up => exact h.execTransportStatus role up
  | reset => exact h.exec_reset
  | indcStrobe => exact h.presentAll.next
  | trackerSetBit k v => exact (h.trkSetIndexed k v).next
  | unassigned0 | unassignedF | standby | keyboardStrobe | proceed => exact (h.refuse _).next
  | ch10SetBit | ch10Write | ch11SetBit | ch11Write =>
    obtain ⟨c, o, d, rfl⟩ := h
    exact Relinked.next ⟨_, _, _, rfl⟩
  | _ => exact absurd rfl hw

theorem Relinked.step {s t : State} (h : Relinked s t) : AnswersRelinked (step s) (step t) := by
  have hinput : t.input = s.input := by obtain ⟨c, o, d, rfl⟩ := h; rfl
  unfold Machine.step takeInput
  rw [hinput]
  cases s.input with
  | nil => exact h.next
  | cons r rest =>
    have hrest : Relinked { s with input := rest } { t with input := rest } :=
      h.map (f := fun s => { s with input := rest }) fun _ _ _ _ => ⟨_, _, _, rfl⟩
    dsimp only
    cases decodeRecord r with
    | ok i => exact hrest.exec i
    | error e => exact (hrest.refuse _).next

/-- Settles O52: every step keeps two states the same but for the connection flags, OUT and COND (`Relinked.step`). -/
theorem stateDoesNotDependOnConnections : Obligations.StateDoesNotDependOnConnections := by
  intro s t c o d ht
  obtain ⟨t', u, ht', hu, hlink⟩ := Relinked.step (s := s) ⟨c, o, d, rfl⟩
  obtain rfl : t = t' := by rw [ht] at ht'; injection ht'
  obtain ⟨c', o', d', rfl⟩ := hlink
  exact ⟨_, hu, rfl⟩

end Sys2Proof.Machine
end

section
/-! What the block refuses (46_control_events.md R96 to R100): the events it does not describe, the unassigned tags, and
the malformed records, which are those of an unassigned tag and those the decoder rejects. -/

namespace Sys2Proof.Machine

open Sys2Proof.Safety

/-! ## Refused instructions -/

/-- What an instruction answers is what it answers from empty outputs, with the outputs of before put back in front. -/
theorem exec_eq_silent {i : Instr} {s t : State} (h : exec i s = .next t) :
    ∃ u, exec i (silent s) = .next u ∧ t = withPast s u := by
  have hs := exec_withPast s i (silent s)
  rw [withPast_silent, h] at hs
  exact onNext_eq_next hs.symm

/-- Settles O48: each event is `refuse` with its reason; the mark sticks because an instruction only adds to what
was put out before it (`exec_eq_silent`). -/
theorem undescribedEventsAreRefused : Obligations.UndescribedEventsAreRefused := by
  refine ⟨fun _ => ⟨rfl, rfl, rfl⟩, by decide, by decide, by decide, fun i s t h hs => ?_⟩
  obtain ⟨u, -, rfl⟩ := exec_eq_silent h
  obtain ⟨-, -, -, -, -, hrefused⟩ := after_withPast s u
  rw [hrefused, hs, Bool.true_or]

/-- Settles O53: the records are the encodings of the two instructions, and both are `refuse`. -/
theorem unassignedTagsAreRefused : Obligations.UnassignedTagsAreRefused := fun rest _ =>
  ⟨Laws.DecodeEncode.unassigned0 rest rfl, Laws.DecodeEncode.unassignedF rest rfl, rfl, rfl⟩

/-! ## The fields of a record as numbers (R48) -/

section Fields
variable (r : Record)

theorem recTag_toNat : (recTag r).toNat = r.toNat / 2 ^ 28 := by
  have := r.isLt
  rw [recTag, BitVec.extractLsb'_toNat, Nat.shiftRight_eq_div_pow]
  omega

theorem recRsv_toNat : (recRsv r).toNat = r.toNat / 2 ^ 20 % 2 ^ 8 := by
  rw [recRsv, BitVec.extractLsb'_toNat, Nat.shiftRight_eq_div_pow]

theorem recIdx_toNat : (recIdx r).toNat = r.toNat / 2 ^ 16 % 2 ^ 4 := by
  rw [recIdx, BitVec.extractLsb'_toNat, Nat.shiftRight_eq_div_pow]

theorem recArg_toNat : (recArg r).toNat = r.toNat % 2 ^ 16 := by
  rw [recArg, BitVec.extractLsb'_toNat, Nat.shiftRight_zero]

theorem malformed_iff :
    Malformed r ↔ MalformedFields (recTag r).toNat (recRsv r).toNat (recIdx r).toNat (recArg r).toNat := by
  rw [recTag_toNat, recRsv_toNat, recIdx_toNat, recArg_toNat]

end Fields

/-- R100 of a record written as a number from its fields. -/
theorem malformed_recordOf {tag idx arg : Nat} (htag : tag < 2 ^ 4) (hidx : idx < 2 ^ 4) (harg : arg < 2 ^ 16) :
    Malformed (recordOf tag idx arg) ↔ MalformedFields tag 0 idx arg := by
  have hnum : (recordOf tag idx arg).toNat = tag * 2 ^ 28 + idx * 2 ^ 16 + arg :=
    (BitVec.toNat_ofNat _ _).trans (Nat.mod_eq_of_lt (by omega))
  have htag' : (recordOf tag idx arg).toNat / 2 ^ 28 = tag := by omega
  have hrsv' : (recordOf tag idx arg).toNat / 2 ^ 20 % 2 ^ 8 = 0 := by omega
  have hidx' : (recordOf tag idx arg).toNat / 2 ^ 16 % 2 ^ 4 = idx := by omega
  have harg' : (recordOf tag idx arg).toNat % 2 ^ 16 = arg := by omega
  rw [Malformed, htag', hrsv', hidx', harg']

/-! ## Records the decoder rejects -/

/-- The decoder answers with an error, whichever. -/
def Rejects (x : Except DecodeError Instr) : Prop := ∃ e, x = .error e

@[simp] theorem rejects_error (e : DecodeError) : Rejects (.error e) := ⟨e, rfl⟩

@[simp] theorem not_rejects_ok (i : Instr) : ¬ Rejects (.ok i) := fun ⟨_, h⟩ => nomatch h

section Guards
variable {c : Prop} [Decidable c]

theorem rejects_guard_iff {i : Instr} {e : DecodeError} : Rejects (if c then .ok i else .error e) ↔ ¬ c := by
  split <;> simp [*]

theorem rejects_check_iff {x : Except DecodeError Instr} {e : DecodeError} :
    Rejects (if c then .error e else x) ↔ c ∨ Rejects x := by
  split <;> simp [*]

end Guards

/-- The bits from `n` up are not all zero exactly if the number does not fit below them. -/
theorem high_ne_zero_iff {n k : Nat} {x : BitVec (n + k)} : x.extractLsb' n k ≠ 0 ↔ 2 ^ n ≤ x.toNat := by
  have hlt : x.toNat / 2 ^ n < 2 ^ k := Nat.div_lt_of_lt_mul (Nat.pow_add 2 n k ▸ x.isLt)
  rw [Ne, ← BitVec.toNat_inj, BitVec.extractLsb'_toNat, Nat.shiftRight_eq_div_pow, Nat.mod_eq_of_lt hlt]
  simp [Nat.div_eq_zero_iff]

theorem eq_zero_iff_toNat {n : Nat} {x : BitVec n} : x = 0 ↔ x.toNat = 0 := by
  rw [← BitVec.toNat_inj, BitVec.ofNat_eq_ofNat, BitVec.toNat_zero]

section Readers
variable (idx : BitVec 4) (arg : BitVec 16)

theorem decodeBare_rejects_iff (i : Instr) :
    Rejects (decodeBare i idx arg) ↔ idx.toNat ≠ 0 ∨ arg.toNat ≠ 0 := by
  rw [decodeBare, rejects_guard_iff, not_and_or, eq_zero_iff_toNat, eq_zero_iff_toNat]

theorem decodeSetBit_rejects_iff (mk : BitVec 4 → Bool → Instr) :
    Rejects (decodeSetBit mk idx arg) ↔ 2 ≤ arg.toNat := by
  rw [decodeSetBit, rejects_guard_iff]
  exact high_ne_zero_iff (n := 1) (k := 15)

theorem decodeWrite_rejects_iff (mk : BitVec 16 → Instr) : Rejects (decodeWrite mk idx arg) ↔ idx.toNat ≠ 0 := by
  rw [decodeWrite, rejects_guard_iff, eq_zero_iff_toNat]

theorem decodeByteIn_rejects_iff : Rejects (decodeByteIn idx arg) ↔ idx.toNat ≠ 0 ∨ 2 ^ 8 ≤ arg.toNat := by
  rw [decodeByteIn, rejects_guard_iff, not_and_or, eq_zero_iff_toNat]
  exact or_congr_right (high_ne_zero_iff (n := 8) (k := 8))

theorem keyCodeOk_iff_toNat : keyCodeOk arg = true ↔ arg.toNat < 2 ^ 15 := by
  have hmsb : arg.msb = false ↔ 2 * arg.toNat < 2 ^ 16 := BitVec.msb_eq_false_iff_two_mul_lt
  rw [keyCodeOk_iff]
  exact hmsb.trans (by omega)

theorem decodeKeyIn_rejects_iff : Rejects (decodeKeyIn idx arg) ↔ idx.toNat ≠ 0 ∨ 2 ^ 15 ≤ arg.toNat := by
  rw [decodeKeyIn, rejects_check_iff, rejects_guard_iff, ne_eq, eq_zero_iff_toNat, keyCodeOk_iff_toNat, not_lt]

theorem decodeTransport_rejects_iff : Rejects (decodeTransport idx arg) ↔ 2 ≤ idx.toNat ∨ 2 ≤ arg.toNat := by
  have hrole : ¬ roleFieldOk idx = true ↔ 2 ≤ idx.toNat := by simp [roleFieldOk, Nat.lt_iff_add_one_le]
  rw [decodeTransport, rejects_check_iff, rejects_guard_iff, hrole, or_comm]
  exact or_congr_right (high_ne_zero_iff (n := 1) (k := 15))

end Readers

/-- Without `rsv`, R100 calls malformed what has an unassigned tag or is rejected by its tag's reader. -/
theorem malformedFields_iff_rejects (tag idx : BitVec 4) (arg : BitVec 16) (rest : BitVec 28) :
    MalformedFields tag.toNat 0 idx.toNat arg.toNat ↔
      tagUnassigned tag = true ∨ Rejects (decodeTag tag idx arg rest) := by
  rcases relayWord_cases tag with e | e | e | e | e | e | e | e | e | e | e | e | e | e | e | e <;> subst e
  all_goals simp [MalformedFields, tagUnassigned, decodeTag, decodeBare_rejects_iff, decodeSetBit_rejects_iff,
    decodeWrite_rejects_iff, decodeByteIn_rejects_iff, decodeKeyIn_rejects_iff, decodeTransport_rejects_iff]

theorem malformedFields_iff_rsv {tag rsv idx arg : Nat} :
    MalformedFields tag rsv idx arg ↔ rsv ≠ 0 ∨ MalformedFields tag 0 idx arg := by
  by_cases hrsv : rsv = 0 <;> simp [MalformedFields, hrsv]

/-- A malformed record has an unassigned tag, or the decoder rejects it. -/
theorem malformed_iff_rejects (r : Record) :
    Malformed r ↔ tagUnassigned (recTag r) = true ∨ Rejects (decodeRecord r) := by
  rw [malformed_iff, malformedFields_iff_rsv, malformedFields_iff_rejects _ _ _ (recRest r), decodeRecord,
    rejects_check_iff, ne_eq, ne_eq, eq_zero_iff_toNat]
  cases tagUnassigned (recTag r) <;> simp

/-- Under an unassigned tag the record decodes to that tag's instruction, which refuses it. -/
theorem decodeRecord_of_unassigned {r : Record} (htag : tagUnassigned (recTag r) = true) :
    ∃ i, decodeRecord r = .ok i ∧ ∀ s, exec i s = .next (refuse .malformedRecord s) := by
  simp only [tagUnassigned, decide_eq_true_eq] at htag
  rw [← tagged_fields r]
  rcases htag with h | h <;> rw [h]
  · exact ⟨_, Laws.DecodeEncode.unassigned0 (recRest r) rfl, fun _ => rfl⟩
  · exact ⟨_, Laws.DecodeEncode.unassignedF (recRest r) rfl, fun _ => rfl⟩

/-! ## The step -/

section Step
variable {s : State} {r : Record} {rest : List Record} (hin : s.input = r :: rest)
include hin

theorem step_of_malformed (hbad : Malformed r) :
    step s = .next (refuse .malformedRecord { s with input := rest }) := by
  rcases (malformed_iff_rejects r).mp hbad with htag | ⟨e, hdec⟩
  · obtain ⟨i, hdec, hexec⟩ := decodeRecord_of_unassigned htag
    exact (step_eq_exec hin hdec).trans (hexec _)
  · simp only [step, takeInput_of_input_cons hin, hdec]
    rfl

theorem step_of_not_malformed (hok : ¬ Malformed r) :
    ∃ i, decodeRecord r = .ok i ∧ i.wellFormed = true ∧ step s = exec i { s with input := rest } := by
  cases hdec : decodeRecord r with
  | ok i =>
    obtain ⟨hwf, -⟩ := decodeRecord_encodes hdec
    exact ⟨i, rfl, hwf, step_eq_exec hin hdec⟩
  | error e => exact absurd ((malformed_iff_rejects r).mpr (.inr ⟨e, hdec⟩)) hok

end Step

/-- Every bit of the argument of a whole-value write is named (R100). -/
theorem write_not_malformed {tag : Nat} (htag : tag ∈ [0x2, 0x5]) (w : BitVec 16) :
    ¬ Malformed (recordOf tag 0 w.toNat) := by
  simp only [List.mem_cons, List.not_mem_nil, or_false] at htag
  rw [malformed_recordOf (by omega) (by omega) w.isLt]
  rcases htag with rfl | rfl <;> simp [MalformedFields]

/-- Index 0 of a set-bit operation is as good as any other (R100). -/
theorem setBit_not_malformed {tag : Nat} (htag : tag ∈ [0x1, 0x4, 0x7]) (v : Bool) :
    ¬ Malformed (recordOf tag 0 v.toNat) := by
  have hv : v.toNat < 2 := v.toNat_lt
  simp only [List.mem_cons, List.not_mem_nil, or_false] at htag
  rw [malformed_recordOf (by omega) (by omega) (by omega)]
  rcases htag with rfl | rfl | rfl <;> simp [MalformedFields, hv]

/-- Settles O4: a record is malformed if its tag is unassigned or the decoder rejects it (`malformed_iff_rejects`), and
either way the step is the refusal. -/
theorem malformedRecordsAreRefused : Obligations.MalformedRecordsAreRefused := by
  refine ⟨fun _ _ _ hin hbad => step_of_malformed hin hbad, fun _ _ _ hin hok => step_of_not_malformed hin hok,
    fun w => ⟨?_, ?_⟩, fun v => ⟨?_, ?_, ?_⟩, by decide, by decide, by decide⟩
  · exact write_not_malformed (by decide) w
  · exact write_not_malformed (by decide) w
  · exact setBit_not_malformed (by decide) v
  · exact setBit_not_malformed (by decide) v
  · exact setBit_not_malformed (by decide) v

end Sys2Proof.Machine
end

section
/-! No instruction stops the block (60_exceptions.md R103, 46_control_events.md R96): every `exec` and every step has a
next state, so a run over any number of steps has one, and it takes that many records from the input. -/

namespace Sys2Proof.Machine

open Sys2Proof.Safety

theorem exec_completes (i : Instr) (s : State) : ∃ t, exec i s = .next t := by
  obtain ⟨t, ht, -⟩ := exec_parser i s
  exact ⟨t, ht⟩

theorem step_of_input_nil {s : State} (hin : s.input = []) : step s = .next s := by
  simp only [step, takeInput, hin, idle]

theorem step_completes (s : State) : ∃ t, step s = .next t := by
  cases hin : s.input with
  | nil => exact ⟨s, step_of_input_nil hin⟩
  | cons r rest =>
    obtain ⟨t, ht, -⟩ := step_parser hin
    exact ⟨t, ht⟩

theorem run_completes (n : Nat) (s : State) : ∃ t, run n s = .next t ∧ t.input = s.input.drop n := by
  induction n generalizing s with
  | zero => exact ⟨s, run_zero s, rfl⟩
  | succ n ih =>
    obtain ⟨u, hstep⟩ := step_completes s
    obtain ⟨-, hinput⟩ := step_params_input hstep
    obtain ⟨t, hrun, ht⟩ := ih u
    exact ⟨t, (run_succ hstep).trans hrun, by rw [ht, hinput, List.drop_tail]⟩

/-- Settles O10: a run is its steps, each of which completes and takes the oldest record, if there is one. -/
theorem everyRunCompletes : Obligations.EveryRunCompletes := ⟨exec_completes, run_completes⟩

end Sys2Proof.Machine
end

section
/-! The conditions one relay word reports (60_exceptions.md R101, R104): invalid patterns of its own fields in their
order and dropped commands, or one invalid relay word. -/

namespace Sys2Proof.Machine

open Sys2Proof.Safety

/-- The field of an INVALID_PATTERN condition. -/
def patternField : Condition → Option DigitField
  | .invalidPattern f _ => some f
  | _ => none

/-- What a relay word with the digit fields `fields` may report: INVALID_PATTERN at most once for each field, upper field
first, among conditions that are no INVALID_RELAY_WORD; or one INVALID_RELAY_WORD alone. -/
inductive WordReports (fields : List DigitField) (new : List Condition) : Prop
  | patterns (ordered : List.Sublist (new.filterMap patternField) fields) (valid : ∀ rw, .invalidRelayWord rw ∉ new)
  | relayWord (rw : BitVec 4) (alone : new = [.invalidRelayWord rw])

/-! ## What the bounds of R104 follow from -/

section Reports
variable {fields : List DigitField} {new : List Condition} (h : WordReports fields new)
include h

theorem WordReports.fields_sublist : List.Sublist (new.filterMap patternField) fields := by
  cases h with
  | patterns ordered => exact ordered
  | relayWord rw alone => subst alone; exact List.nil_sublist fields

theorem WordReports.pattern_count_le {isPattern : Condition → Bool} (hp : ∀ c, isPattern c = (patternField c).isSome) :
    (new.filter isPattern).length ≤ fields.length := by
  obtain rfl : isPattern = fun c => (patternField c).isSome := funext hp
  rw [← List.countP_eq_length_filter, ← List.length_filterMap_eq_countP]
  exact h.fields_sublist.length_le

theorem WordReports.relayWord_count_le_one {isWord : Condition → Bool}
    (hw : ∀ c, isWord c = true → ∃ rw, c = .invalidRelayWord rw) : (new.filter isWord).length ≤ 1 := by
  cases h with
  | patterns _ valid =>
    have hnone : new.filter isWord = [] := List.filter_eq_nil_iff.mpr fun c hc hword => by
      obtain ⟨rw, rfl⟩ := hw c hword
      exact valid rw hc
    simp [hnone]
  | relayWord rw alone => subst alone; exact List.length_filter_le isWord _

theorem WordReports.pattern_notMem_of_relayWord_mem (hw : ∃ rw, .invalidRelayWord rw ∈ new) (f : DigitField)
    (p : BitVec 5) : .invalidPattern f p ∉ new := by
  obtain ⟨rw, hrw⟩ := hw
  cases h with
  | patterns _ valid => exact absurd hrw (valid rw)
  | relayWord rw' alone => simp [alone]

end Reports

theorem fieldsOf_length_le_two (i : Instr) : (fieldsOf i).length ≤ 2 := by
  cases i <;> simp [fieldsOf]

/-! ## The conditions of each part of a word -/

theorem mem_signReported {up : Bool} {old new : Sign} {c : Condition} (h : c ∈ signReported up old new) :
    c = .transportUnavailable .display := by
  unfold signReported at h
  split at h
  · exact List.mem_singleton.mp h
  · cases h

theorem digitUpdates_cond (l : List FieldPattern) (s : State) :
    (digitUpdates l s).cond = s.cond ++ l.flatMap (digitReported (roleGet s.conn .display)) := by
  rw [digitUpdates_eq]

/-- The lamps report dropped commands only. -/
theorem lamp12Update_cond (bit : LampBit → Bool) (s : State) : ∃ dropped : List Condition,
    (lamp12Update bit s).cond = s.cond ++ dropped ∧ ∀ c ∈ dropped, ∃ role, c = .transportUnavailable role := by
  obtain ⟨-, -, -, hcond⟩ := lamp12Update_step bit s
  refine ⟨_, hcond, fun c hc => ?_⟩
  obtain ⟨x, -, hx⟩ := List.mem_map.mp hc
  exact ⟨x.1, hx.symm⟩

theorem digitReported_fields (up : Bool) (x : FieldPattern) :
    List.Sublist ((digitReported up x).filterMap patternField) [x.1] := by
  unfold digitReported
  cases segDecode x.2 with
  | none => exact List.Sublist.refl [x.1]
  | some d => cases up <;> exact List.nil_sublist [x.1]

theorem digitsReported_fields (up : Bool) (l : List FieldPattern) :
    List.Sublist ((l.flatMap (digitReported up)).filterMap patternField) (l.map (·.1)) := by
  induction l with
  | nil => exact List.Sublist.refl []
  | cons x l ih =>
    rw [List.flatMap_cons, List.filterMap_append]
    exact (digitReported_fields up x).append ih

/-- Digits in order, and after them dropped commands. -/
theorem digitsReported_wordReports (up : Bool) (l : List FieldPattern) {dropped : List Condition}
    (hdropped : ∀ c ∈ dropped, ∃ role, c = .transportUnavailable role) :
    WordReports (l.map (·.1)) (l.flatMap (digitReported up) ++ dropped) := by
  refine .patterns ?_ fun rw hrw => ?_
  · have hnone : dropped.filterMap patternField = [] := List.filterMap_eq_nil_iff.mpr fun c hc => by
      obtain ⟨role, rfl⟩ := hdropped c hc
      rfl
    rw [List.filterMap_append, hnone, List.append_nil]
    exact digitsReported_fields up l
  · rcases List.mem_append.mp hrw with hdigit | hdrop
    · obtain ⟨x, -, hx⟩ := List.mem_flatMap.mp hdigit
      rcases mem_digitReported hx with h | h <;> cases h
    · obtain ⟨role, h⟩ := hdropped _ hdrop
      cases h

/-! ## Every relay word -/

theorem exec_digitWord_wordReports {i : Instr} {s t : State} (hi : fieldsOf i ≠ []) (h : exec i s = .next t) :
    ∃ new, t.cond = s.cond ++ new ∧ WordReports (fieldsOf i) new := by
  obtain ⟨l, hl, ⟨-, hexec⟩ | ⟨r, w, sb, -, hexec⟩⟩ := exec_digitWord hi <;> rw [hexec] at h <;> injection h with h <;>
    subst h <;> rw [← hl]
  · exact ⟨_, by rw [digitUpdates_cond, List.append_nil], digitsReported_wordReports _ l (dropped := []) (by simp)⟩
  · exact ⟨_, by rw [signUpdate_cond, digitUpdates_cond, List.append_assoc],
      digitsReported_wordReports _ l fun c hc => ⟨.display, mem_signReported hc⟩⟩

theorem exec_wordReports {i : Instr} {s t : State} (hi : isRelayWord i = true) (h : exec i s = .next t) :
    ∃ new, t.cond = s.cond ++ new ∧ WordReports (fieldsOf i) new := by
  by_cases hf : fieldsOf i = []
  case neg => exact exec_digitWord_wordReports hf h
  rw [hf]
  cases i with
  | rw0 => injection h with h; subst h; exact ⟨[], (List.append_nil _).symm, .patterns (.refl []) (by simp)⟩
  | rw12 sb up lo =>
    injection h with h
    obtain ⟨dropped, hcond, hdropped⟩ := lamp12Update_cond (lampSource (packWord 12 sb up lo)) s
    exact ⟨dropped, h ▸ hcond, digitsReported_wordReports true [] hdropped⟩
  | rw13 | rw14 | rw15 => injection h with h; subst h; exact ⟨_, rfl, .relayWord _ rfl⟩
  | rw1 | rw2 | rw3 | rw4 | rw5 | rw6 | rw7 | rw8 | rw9 | rw10 | rw11 => cases hf
  | _ => cases hi

/-- Settles O38: the bounds follow from what a word may report (`exec_wordReports`), as a word has at most two fields; in
the examples DIGIT_UPDATE reports each field by its pattern and by the connection (`digitUpdates_cond`). -/
theorem conditionsOfOneWordAreLimited : Obligations.ConditionsOfOneWordAreLimited := by
  refine ⟨fun i s t hi h => ?_, fun p => ⟨_, rfl, digitUpdates_cond [(.nd1, 1), (.nd2, 2)] (State.powerOn p)⟩,
    fun p hconn => ⟨_, rfl, ?_⟩⟩
  · obtain ⟨new, hcond, hnew⟩ := exec_wordReports hi h
    refine ⟨new, hcond, (hnew.pattern_count_le fun c => ?_).trans (fieldsOf_length_le_two i),
      hnew.relayWord_count_le_one fun c hc => ?_, hnew.pattern_notMem_of_relayWord_mem, hnew.fields_sublist⟩
    · cases c <;> rfl
    · cases c with
      | invalidRelayWord rw => exact ⟨rw, rfl⟩
      | invalidPattern | transportUnavailable => cases hc
  · have hdropped := digitUpdates_cond [(.nd1, 1), (.nd2, 28)] (State.powerOn p)
    rw [show roleGet (State.powerOn p).conn .display = false from hconn] at hdropped
    exact hdropped

end Sys2Proof.Machine
end

section
/-! What a relay word reads (42_display_decoder.md R60 to R65): neither the parser nor the pending input, so it does the
same whatever these hold. -/

namespace Sys2Proof.Machine

open Sys2Proof.Safety

/-- `s` with the frame parser and the pending input of `x`. -/
def withIncoming (x s : State) : State :=
  { s with fpos := x.fpos, fchan := x.fchan, fdata := x.fdata, input := x.input }

section Incoming
variable (x : State)

@[simp] theorem withIncoming_l12 (s : State) : (withIncoming x s).l12 = s.l12 := rfl

theorem emit_withIncoming (role : Role) (cmd : Bytes) (s : State) :
    emit role cmd (withIncoming x s) = withIncoming x (emit role cmd s) := by
  cases hconn : roleGet s.conn role <;> simp [emit, withIncoming, hconn, report]

theorem digitUpdates_withIncoming (l : List FieldPattern) (s : State) :
    digitUpdates l (withIncoming x s) = withIncoming x (digitUpdates l s) := by
  rw [digitUpdates_eq, digitUpdates_eq]; rfl

theorem signUpdate_withIncoming (r : Row) (w : SignFlag) (sb : Bool) (s : State) :
    signUpdate r w sb (withIncoming x s) = withIncoming x (signUpdate r w sb s) := by
  rw [signUpdate, signUpdate, commandSign_eq, commandSign_eq]
  cases w <;> rfl

theorem lampStep_withIncoming (b : LampBit) (v : Bool) (s : State) :
    lampStep b v (withIncoming x s) = withIncoming x (lampStep b v s) := by
  unfold lampStep
  rw [withIncoming_l12]
  split
  · rfl
  · exact emit_withIncoming x _ _ { s with l12 := lampSet s.l12 b v }

theorem lamp12Update_withIncoming (bit : LampBit → Bool) (s : State) :
    lamp12Update bit (withIncoming x s) = withIncoming x (lamp12Update bit s) :=
  List.foldl_hom (withIncoming x) fun t b => lampStep_withIncoming x b (bit b) t

theorem exec_relayWord_withIncoming {i : Instr} (hi : isRelayWord i = true) (s : State) :
    exec i (withIncoming x s) = onNext (withIncoming x) (exec i s) := by
  by_cases hf : fieldsOf i = []
  · obtain hexec | ⟨-, bit, hexec⟩ | ⟨c, hexec⟩ := exec_digitlessWord hi hf <;> rw [hexec, hexec]
    · rfl
    · exact congrArg _ (lamp12Update_withIncoming x bit s)
    · rfl
  · obtain ⟨l, -, ⟨-, hexec⟩ | ⟨r, w, sb, -, hexec⟩⟩ := exec_digitWord hf <;> rw [hexec, hexec]
    · exact congrArg _ (digitUpdates_withIncoming x l s)
    · rw [digitUpdates_withIncoming, signUpdate_withIncoming]
      rfl

end Incoming

end Sys2Proof.Machine
end

section
/-! Power-on and RESET (10_state.md R11, 70_reset_and_hazards.md R112, R113), and a step with no operation pending (R120):
RESET answers the power-on state up to what the peripherals, the socket and the host hold. -/

namespace Sys2Proof.Machine

open Sys2Proof.Safety

/-! ## The power-on values -/

section PowerOn
variable (p : Params)

theorem powerOn_signs (r : Row) : rowGet (State.powerOn p).plus r = false ∧ rowGet (State.powerOn p).minus r = false ∧
    rowGet (State.powerOn p).sout r = .blank := by
  cases r <;> exact ⟨rfl, rfl, rfl⟩

theorem powerOn_digitVal (f : DigitField) : digitVal (cacheGet (State.powerOn p).dcache f) = -1 := by
  simp [State.powerOn, cacheGet, digitVal]

theorem powerOn_l12 (b : LampBit) : lampGet (State.powerOn p).l12 b = false := by
  cases b <;> rfl

end PowerOn

/-! ## RESET -/

theorem exec_reset_emitsAll {s t : State} (h : exec .reset s = .next t) :
    EmitsAll [(.display, RESETCMD s.params .display), (.indicator, RESETCMD s.params .indicator)] s t := by
  rw [exec_reset_eq] at h
  injection h with h
  subst h
  have hdisplay := emit_emitsAll .display (encodeReset s.params .display) (clearDisplay s)
  have hindicator := emit_emitsAll .indicator (encodeReset s.params .indicator)
    (clearTracker (emit .display (encodeReset s.params .display) (clearDisplay s)))
  exact EmitsAll.trans hdisplay (emit_conn _ _ _) hindicator

/-- Settles O47: the two clears write the power-on values, and the two reset commands reach only the outputs and the
conditions. -/
theorem resetMakesTheBlockFresh : Obligations.ResetMakesTheBlockFresh := by
  intro s
  refine ⟨_, exec_reset_eq s, ?_⟩
  apply State.ext <;> simp [State.powerOn]

/-- The silent part of the state after RESET is power-on, with the connections, parser and input of that state. -/
theorem silent_of_reset {s t : State} (h : exec .reset s = .next t) :
    silent t = withIncoming t { State.powerOn s.params with conn := s.conn } := by
  obtain ⟨t', ht', hfresh⟩ := resetMakesTheBlockFresh s
  obtain rfl : t' = t := by rw [ht'] at h; injection h
  rw [hfresh]
  rfl

/-- A relay word after RESET does what it does from power-on: it reads neither the outputs (`exec_eq_silent`) nor the
parser and the input (`exec_relayWord_withIncoming`). -/
theorem relayWord_after_reset {i : Instr} {s t u v : State} (hi : isRelayWord i = true) (ht : exec .reset s = .next t)
    (hu : exec i t = .next u) (hv : exec i { State.powerOn s.params with conn := s.conn } = .next v) :
    u = withPast t (withIncoming t v) := by
  obtain ⟨u', hu', rfl⟩ := exec_eq_silent hu
  rw [silent_of_reset ht, exec_relayWord_withIncoming t hi, hv] at hu'
  injection hu' with hu'
  rw [hu']

/-- Settles O46: the cleared elements hold the power-on values by O47, the commands are `exec_reset_emitsAll`, and a relay
word afterwards adds to the outputs what it adds from power-on (`relayWord_after_reset`). -/
theorem resetClearsDecoderAndTracker : Obligations.ResetClearsDecoderAndTracker := by
  refine ⟨by decide, fun s => ?_, fun i s t u v hi ht hu hv => ?_⟩
  · obtain ⟨t, ht, hfresh⟩ := resetMakesTheBlockFresh s
    have hemits := exec_reset_emitsAll ht
    refine ⟨t, ht, ?_⟩
    rw [hfresh] at hemits ⊢
    exact ⟨rfl, rfl, rfl, powerOn_signs s.params, powerOn_digitVal s.params, powerOn_l12 s.params, hemits, rfl, rfl, rfl,
      rfl, rfl, rfl, rfl, rfl, rfl⟩
  · rw [relayWord_after_reset hi ht hu hv]
    obtain ⟨-, hout, -, hcond, -⟩ := after_withPast t (withIncoming t v)
    exact ⟨hout, hcond⟩

/-- Settles O11: the power-on values are those of the definition, and RESET from power-on is O47 there. -/
theorem powerOnHoldsTheTabledValues : Obligations.PowerOnHoldsTheTabledValues := fun p =>
  ⟨rfl, rfl, rfl, powerOn_signs p, powerOn_digitVal p, powerOn_l12 p, rfl, rfl, rfl, rfl, rfl, rfl, powerOn_out p, rfl,
    rfl, rfl, resetMakesTheBlockFresh (State.powerOn p)⟩

/-! ## No operation pending -/

/-- Settles O9: with no record to take the step idles. -/
theorem nothingHappensWithoutInput : Obligations.NothingHappensWithoutInput := fun _ hin => step_of_input_nil hin

end Sys2Proof.Machine
end

section
/-! A frame whose last byte is lost (70_reset_and_hazards.md R117): the next frame's first byte ends it, and the rest of
that frame finds the parser at position 0. -/

namespace Sys2Proof.Machine

open Sys2Proof.Safety

/-- R44: bytes 1 and 2 carry data bits 14:6. -/
theorem data_without_low_bits (d : BitVec 15) :
    (d.extractLsb' 12 3).setWidth 15 <<< 12 ||| (d.extractLsb' 6 6).setWidth 15 <<< 6 = d &&& 0x7FC0#15 := by
  have hfields := data_of_fields (d &&& 0x7FC0#15)
  have hhigh : (d &&& 0x7FC0#15).extractLsb' 12 3 = d.extractLsb' 12 3 := by
    rw [BitVec.extractLsb'_and]
    exact BitVec.and_allOnes
  have hmid : (d &&& 0x7FC0#15).extractLsb' 6 6 = d.extractLsb' 6 6 := by
    rw [BitVec.extractLsb'_and]
    exact BitVec.and_allOnes
  have hlow : (d &&& 0x7FC0#15).extractLsb' 0 6 = 0 := by
    rw [BitVec.extractLsb'_and]
    exact BitVec.and_zero
  rw [hhigh, hmid, hlow] at hfields
  simpa using hfields

/-- A mismatched byte 0 at position 3 ends the frame as `P3_MISMATCH` says, at position 0 (R84). -/
theorem exec_frameB0_ends_frame {s : State} (hp : s.fpos = .p3) (ign : BitVec 2) (chHi : BitVec 4) :
    ∃ t, exec (.frameB0 ign chHi) s = .next t ∧ t.fpos = .p0 ∧
      (s.params.p3Mismatch = .yieldPair → Dispatched s.fchan s.fdata (parserClear s) (.next t)) ∧
      (s.params.p3Mismatch = .dropFrame → t = parserClear s) := by
  have hmarker : MarkerBelow3 (.frameB0 ign chHi) := .inl ⟨ign, chHi, rfl⟩
  obtain ⟨t, ht, hparser⟩ := exec_frameByte_at_p3 hp (.inl hmarker)
  have hspec := frameEndMismatched_spec s
  rw [← exec_mismatched_at_p3 hp hmarker, ht] at hspec
  obtain ⟨hyield, hdrop⟩ := hspec
  obtain ⟨hpos, -, -⟩ := FrameParser.ext_iff.mp hparser
  exact ⟨t, ht, hpos, hyield, fun h => Host.Outcome.next.inj (hdrop h)⟩

/-- Settles O22: the accumulator after three bytes is the pair without data bits 5:0, byte 0 of the next frame ends it
(`exec_frameB0_ends_frame`), and at position 0 bytes 1 to 3 are dropped. -/
theorem lostLastByteCostsTwoFrames : Obligations.LostLastByteCostsTwoFrames := by
  intro ch d ign jgn c0 c1 d1 d2 d3 s hp
  obtain ⟨t, ht, hpos, hyield, hdrop⟩ := exec_frameB0_ends_frame
    (s := { s with fpos := .p3, fchan := ch, fdata := d &&& 0x7FC0#15 }) rfl jgn c0
  refine ⟨_, _, _, t, exec_frameB0_at_p0 hp ign _, exec_frameB1_at_p1 rfl _ _, exec_frameB2_at_p2 rfl _, ?_, hyield, hdrop,
    exec_frameB1_dropped (.inl hpos) c1 d1, exec_frameB2_dropped (.inl hpos) d2, exec_frameB3_dropped (.inl hpos) d3⟩
  dsimp only
  rw [channel_of_fields, data_without_low_bits]
  exact ht

end Sys2Proof.Machine
end
